-- ==== Sys2Proof/Word.lean ====
section
/-! DEFINITION. The plain data every other file is written in: bytes, audio samples, what one row of the table shifts of an SPI
transaction, and fixed-size banks (the part's eight slots, four seats, four timers, four cue sets, five outputs). -/

namespace Sys2Proof

/-- One byte of the control link or of the radio packet port. -/
abbrev Byte := BitVec 8

/-- What one row of the table shifts of an SPI transaction (R172). -/
structure Shift where
  /-- The whole bytes shifted in on MOSI. -/
  mosi : List Byte
  /-- CS_N rises after them. -/
  ends : Bool
deriving DecidableEq, Repr

/-- One audio sample: "16-bit two's complement integers, −32,768 to 32,767, on every port and in every queue
and FIFO" (spec/00_scope.md, 0.5). -/
abbrev Sample := BitVec 16

/-- A bank of exactly `n` like things, numbered 0 to `n − 1`. It is a list that carries its own length, so that
no read of it can miss and no write can change its size. -/
structure Bank (n : Nat) (α : Type) where
  /-- The things, number 0 first. -/
  cells : List α
  /-- There are exactly `n` of them. -/
  size : cells.length = n
deriving DecidableEq, Repr

/-- The thing with number `i`. -/
def Bank.get {n : Nat} {α : Type} (b : Bank n α) (i : Fin n) : α :=
  b.cells[i.val]'(by rw [b.size]; exact i.isLt)

/-- The bank with number `i` replaced. -/
def Bank.set {n : Nat} {α : Type} (b : Bank n α) (i : Fin n) (a : α) : Bank n α :=
  ⟨b.cells.set i.val a, by rw [List.length_set, b.size]⟩

/-- The bank whose thing with number `i` is `f i`. -/
def Bank.ofFn {n : Nat} {α : Type} (f : Fin n → α) : Bank n α :=
  ⟨List.ofFn f, List.length_ofFn⟩

/-- Every thing replaced by what `f` makes of its number and of it. -/
def Bank.mapIdx {n : Nat} {α β : Type} (b : Bank n α) (f : Fin n → α → β) : Bank n β :=
  Bank.ofFn fun i => f i (b.get i)

/-- Every thing replaced by what `f` makes of it. -/
def Bank.map {n : Nat} {α β : Type} (b : Bank n α) (f : α → β) : Bank n β :=
  b.mapIdx fun _ a => f a

/-- `n` copies of one thing. -/
def Bank.fill (n : Nat) {α : Type} (a : α) : Bank n α := Bank.ofFn fun _ => a

/-- Whether some thing of the bank satisfies `p`. -/
def Bank.any {n : Nat} {α : Type} (b : Bank n α) (p : Fin n → α → Bool) : Bool :=
  (List.finRange n).any fun i => p i (b.get i)

/-- The lowest number whose thing satisfies `p`. -/
def Bank.find? {n : Nat} {α : Type} (b : Bank n α) (p : α → Bool) : Option (Fin n) :=
  (List.finRange n).find? fun i => p (b.get i)

end Sys2Proof
end

