-- ==== Sys2Proof/Syntax.lean ====
section
/-! DEFINITION. The commands of the part: one constructor for each row of spec/opcode_table.json, in the table's
order. The part is a block, so a command is an event at one of its ports or pins, an event of its own Time Base or
Mix Engine, or the taking of the request that the Control Link Interface holds.

A request's operands are the bytes of the message in the request buffer (R174, R176), which a WRITE_TRANSACTION
put there. So a request row carries no operand of its own: its taking reads the held message. -/

namespace Sys2Proof

/-- One command, one constructor per row of spec/opcode_table.json. -/
inductive Instr where
  /-- RESET_N_FALL (R183). -/
  | resetNFall
  /-- RESET_N_RISE (R183). -/
  | resetNRise
  /-- START_UP_END (R183): the first Time Base tick after start-up began. -/
  | startUpEnd
  /-- TICK (R142): one 1 ms Time Base tick, with everything it brings about. -/
  | tick
  /-- SUPERVISION_EXPIRY (R20): the tick that brings the named link's supervision remaining to 0. -/
  | supervisionExpiry (link : Fin 8)
  /-- TIMER_EXPIRY (R155): the tick at which the named timer expires. -/
  | timerExpiry (timer : Fin 4)
  /-- HOLDOVER_PASS_BOUNDARY (R152): the tick in HOLDOVER that brings T to 4. -/
  | holdoverPassBoundary
  /-- AUTOMATIC_CALL_END (R147): the tick that brings H to 2,000. -/
  | automaticCallEnd
  /-- FRAME_SYNC (R137): a rise of FSYNC, with the far-end sample received in the frame just ended and the level
  of UL_EN sampled at it. -/
  | frameSync (farEnd : Sample) (ulEn : Bool)
  /-- LOCK (R141): the frame sync that would bring the sync run count to 64. -/
  | lock (farEnd : Sample) (ulEn : Bool)
  /-- CALL_PASS_BOUNDARY (R151): the frame sync that brings b to 64. -/
  | callPassBoundary (farEnd : Sample) (ulEn : Bool)
  /-- PASS_COMPLETION (R130). -/
  | passCompletion
  /-- AUDIO_DOWN_COMPLETE (R44). -/
  | audioDownComplete
  /-- AUDIO_UP (R32): these whole bytes are clocked in on PDIN with PVALID high, and PVALID falls after them where `ends`
  says so. Where PVALID is low it rises before them, so that `audioUp bytes true` is a frame taken whole and
  `audioUp [] false` a rise of PVALID (R25). -/
  | audioUp (bytes : List Byte) (ends : Bool)
  /-- LINK_STATUS (R40): the same, for a frame whose kind is Link Status. -/
  | linkStatus (bytes : List Byte) (ends : Bool)
  /-- WRITE_TRANSACTION (R174): whole bytes are shifted in on MOSI in the transaction in progress, its first byte the
  transaction type, and CS_N rises after them where the operand says so. -/
  | writeTransaction (shift : Shift)
  /-- READ_TRANSACTION (R177): the same, for a transaction whose type is READ. -/
  | readTransaction (shift : Shift)
  /-- ADMIT_LINK (R8): the taking of a held ADMIT LINK request, as are the request rows below of theirs. -/
  | admitLink
  /-- AMEND_LINK (R10). -/
  | amendLink
  /-- READ_LINK (R12). -/
  | readLink
  /-- FIND_LINK (R13). -/
  | findLink
  /-- RETIRE_LINK (R14). -/
  | retireLink
  /-- SET_SEAT (R85). -/
  | setSeat
  /-- READ_SEAT (R86). -/
  | readSeat
  /-- SET_GAIN (R112). -/
  | setGain
  /-- FADE (R113). -/
  | fade
  /-- CUT (R114). -/
  | cut
  /-- STEP_GAIN (R115). -/
  | stepGain
  /-- READ_GAIN (R116). -/
  | readGain
  /-- SET_SIDETONE_CEILING (R108). -/
  | setSidetoneCeiling
  /-- LOAD_TIMER (R157). -/
  | loadTimer
  /-- START_TIMER (R158). -/
  | startTimer
  /-- STOP_TIMER (R159). -/
  | stopTimer
  /-- READ_TIMER (R159). -/
  | readTimer
  /-- SET_CUE (R167). -/
  | setCue
  /-- ENABLE_CUE (R168). -/
  | enableCue
  /-- DISABLE_CUE (R168). -/
  | disableCue
  /-- FIRE_CUE (R169). -/
  | fireCue
  /-- READ_CUE (R170). -/
  | readCue
  /-- CALL_START (R144). -/
  | callStart
  /-- CALL_END (R148). -/
  | callEnd
  /-- CALL_CLEAR (R149). -/
  | callClear
  /-- READ_NOTICES (R180). -/
  | readNotices
  /-- CLEAR_NOTICES (R181). -/
  | clearNotices
  /-- SET_NOTICE_MASK (R180). -/
  | setNoticeMask
  /-- CLEAR_CLIP (R129). -/
  | clearClip
  /-- READ_PORT_COUNTERS (R153). -/
  | readPortCounters
  /-- IDENTIFY (R182). -/
  | identify
  /-- RESET (R184). -/
  | reset
  /-- CS_N_FALL (R172): the fall of CS_N that starts a transaction. -/
  | csNFall
  /-- FRAMING_REFUSAL (R175): the taking of a held request whose framing is wrong. -/
  | framingRefusal
deriving DecidableEq, Repr

end Sys2Proof
end

