-- ==== Sys2Proof/Decode.lean ====
section
/-! DEFINITION. What command a table word spells. No row of spec/opcode_table.json gives bits (every row's "fields" is
empty and none has "fixed"), so no word spells a command. The wire formats of the requests are read where the taking
of a request reads them, in Sys2Proof/Machine/Operands.lean. -/

namespace Sys2Proof

/-- The command that `nbits` bits `w` spell by the table's bits: none, for every word. -/
def decodeTableWord (_nbits _w : Nat) : Option Instr := none

end Sys2Proof
end

