-- ==== Sys2Proof/Config.lean ====
section
/-! DEFINITION. The constants that revision 1 of the part fixes (spec/00_scope.md 0.2: "The capacities in this
table are fixed in revision 1"). The spec leaves no value of the part open, so there is no free value here. -/

namespace Sys2Proof.Config

/-- Samples a jitter queue or a downlink queue holds (R47, R57). -/
@[simp] abbrev queueCapacity : Nat := 768
/-- Samples the far-end FIFO or the uplink FIFO holds (R138, R139). -/
@[simp] abbrev fifoCapacity : Nat := 128
/-- Call samples of one mix pass (spec/00_scope.md 0.5). -/
@[simp] abbrev passSamples : Nat := 64
/-- Where every counter stops (R7, R46, R153, R128, R161). -/
@[simp] abbrev counterMax : Nat := 65535
/-- The largest gain current, target and ramp step (R104). -/
@[simp] abbrev gainMax : Nat := 32767
/-- Unity gain, also the divisor of R125 and R127. -/
@[simp] abbrev unity : Nat := 16384
/-- The largest sidetone ceiling (R107). -/
@[simp] abbrev ceilingMax : Nat := 8192
/-- One sample, in the units of the drift word and of every resampling position: 2^24 (R63). -/
@[simp] abbrev one : Nat := 16777216
/-- The bound of the drift word (R73). -/
@[simp] abbrev driftMax : Int := 16384
/-- The bound of one drift update (R72). -/
@[simp] abbrev driftStep : Int := 512
/-- Passes of one drift window (R71). -/
@[simp] abbrev driftWindow : Nat := 32
/-- The largest connection handle a record may hold (R2, section 1.2). -/
@[simp] abbrev handleMax : Nat := 0xEFF
/-- Samples a link's worst pass may need: the least start level is this plus a block (R3, R4). -/
@[simp] abbrev worstSupply : Nat := 66
/-- Frame syncs of an unbroken run that make lock (R141), and frame syncs of a pass in CALL (R151). -/
@[simp] abbrev syncRun : Nat := 64
/-- The boundary count at which a WAITING uplink side may start (R139). -/
@[simp] abbrev uplinkStart : Nat := 32
/-- Ticks between HOLDOVER boundaries (R152). -/
@[simp] abbrev holdoverSpacing : Nat := 4
/-- Ticks of HOLDOVER after which the call ends automatically (R147). -/
@[simp] abbrev holdoverLimit : Nat := 2000
/-- Bytes the request buffer holds (R174). -/
@[simp] abbrev requestCapacity : Nat := 64
/-- Bytes the receive buffer of the radio packet port holds (R25). -/
@[simp] abbrev receiveCapacity : Nat := 515
/-- What the STEP cue action moves the UPLINK level by (R105, R164). -/
@[simp] abbrev uplinkStep : Nat := 1024

end Sys2Proof.Config
end

