-- ==== Sys2Proof/Machine/State.lean ====
section
/-! DEFINITION. Everything the spec gives the part to remember, and its values after reset. INVENTORY.md lists each
field with the rule that names it. -/

namespace Sys2Proof.Machine

open Sys2Proof

/-! ## Names of the manual -/

/-- A side of a seat (section 1.2). -/
inductive Side where
  | left | right
deriving DecidableEq, Repr

/-- The state of a link record (section 1.6). -/
inductive LinkState where
  | standby | priming | live | lost
deriving DecidableEq, Repr

/-- A link's talk activity (R95). -/
inductive Activity where
  | quiet | talking
deriving DecidableEq, Repr

/-- A seat's mode (R84): FIXED_LEFT, FIXED_RIGHT, PREFER_LEFT, PREFER_RIGHT. -/
inductive SeatMode where
  | fixed (side : Side) | prefer (side : Side)
deriving DecidableEq, Repr

/-- A mix output (R102): UPLINK, DOWN0 to DOWN3. -/
inductive Output where
  | uplink | down (seat : Fin 4)
deriving DecidableEq, Repr

/-- A mix source (R102): FAR, VOICE0 to VOICE3. -/
inductive Source where
  | far | voice (seat : Fin 4)
deriving DecidableEq, Repr

/-- A gain designator (R102): a cell of the matrix, or an output level. -/
inductive GainName where
  | cell (output : Output) (source : Source) | level (output : Output)
deriving DecidableEq, Repr

/-- The direction of a step (R115). -/
inductive Direction where
  | up | down
deriving DecidableEq, Repr

/-- The mix engine state (section 8.3). -/
inductive EngineState where
  | stopped | call | holdover
deriving DecidableEq, Repr

/-- The uplink side of the call PCM port (R139). -/
inductive UplinkSide where
  | waiting | sending
deriving DecidableEq, Repr

/-- The lock state (R141). -/
inductive LockState where
  | unlocked | locked
deriving DecidableEq, Repr

/-- A timer's mode (R154). -/
inductive TimerMode where
  | oneShot | periodic
deriving DecidableEq, Repr

/-- A timer's source of count events (R154). -/
inductive TimerSource where
  | tick | cascade
deriving DecidableEq, Repr

/-- A timer's state (R154). -/
inductive TimerState where
  | idle | running
deriving DecidableEq, Repr

/-- A cause, with its operand (R162). -/
inductive Cause where
  | linkLive (link : Fin 8)
  | linkLeftLive (link : Fin 8)
  | talkStart (link : Fin 8)
  | talkEnd (link : Fin 8)
  | lowFill (link : Fin 8)
  | timer (index : Fin 4)
  | clip (output : Output)
  | clockLost
  | clockBack
deriving DecidableEq, Repr

/-- A cue set's action, with its operand and value (R164). -/
inductive Action where
  | none
  | setTarget (gain : GainName) (target : Nat)
  | fade (gain : GainName)
  | cut (gain : GainName)
  | step (level : Output) (direction : Direction)
  | startTimer (index : Fin 4)
  | stopTimer (index : Fin 4)
  | prefer (seat : Fin 4) (side : Side)
deriving DecidableEq, Repr

/-- A cue set's repeat (R161). -/
inductive Repeat where
  | once | always
deriving DecidableEq, Repr

/-- Why a cue fault happened (R166): SIDE_EMPTY or CASCADE_IDLE. -/
inductive FaultReason where
  | sideEmpty | cascadeIdle
deriving DecidableEq, Repr

/-- A notice kind (R178), the highest priority first. -/
inductive NoticeKind where
  | clock | link | seat | cue | clip | queue
deriving DecidableEq, Repr

/-- A response's status code (R176). -/
inductive Status where
  | ok | badRequest | badIndex | badValue | badCell | wrongState | noRecord | tableFull | duplicateHandle
  | seatTaken | faultPending
deriving DecidableEq, Repr

/-! ## Link records -/

/-- The configuration part of a link record (section 1.2), in the order of its field numbers. -/
structure LinkConfig where
  handle : BitVec 12
  seat : Fin 4
  side : Side
  /-- Samples of one block. -/
  blockLength : Nat
  /-- Samples at which a priming link goes LIVE, and the target of the drift loop. -/
  startLevel : Nat
  /-- Samples below which LOW_FILL is issued. -/
  lowMark : Nat
  /-- Milliseconds of silence allowed. -/
  supervision : Nat
  loopShift : Nat
  /-- Passes. -/
  starveLimit : Nat
  talkOn : Nat
  talkOff : Nat
  /-- Passes. -/
  hang : Nat
deriving DecidableEq, Repr

/-- The nine counters of a link record (R7), in the order of the counter table. -/
structure LinkCounters where
  accepted : Nat
  concealed : Nat
  stale : Nat
  overflow : Nat
  underruns : Nat
  reprimes : Nat
  losses : Nat
  driftLimits : Nat
  downDropped : Nat
deriving DecidableEq, Repr

/-- A link record (chapter 1): configuration, running part (section 1.3), counters and the link's two queues. -/
structure LinkRecord where
  config : LinkConfig
  state : LinkState
  /-- Expected sequence number, or absent (R5). -/
  expected : Option Byte
  /-- Drift word d (R63). -/
  drift : Int
  /-- Phase fraction f0 (R63). -/
  phase : Nat
  /-- Drift window sum (R71). -/
  windowSum : Nat
  /-- Drift window count (R71). -/
  windowCount : Nat
  /-- Starve count (R54). -/
  starve : Nat
  /-- Supervision remaining, ms (R19). -/
  remaining : Nat
  activity : Activity
  /-- Last level (R95). -/
  lastLevel : Nat
  /-- Talk-on run count (R96). -/
  talkRun : Nat
  /-- Hang count (R97). -/
  hangCount : Nat
  /-- Below-low-mark flag (R122). -/
  belowLow : Bool
  /-- Last received block, or absent (R6). -/
  lastBlock : Option (List Sample)
  /-- Downlink position Q (R80). -/
  downPosition : Nat
  /-- Held sample u_prev (R80). -/
  heldSample : Sample
  /-- Downlink sequence number (R44). -/
  downSeq : Byte
  counters : LinkCounters
  /-- Jitter queue, oldest first (R47). -/
  jitter : List Sample
  /-- Downlink queue, oldest first (R57). -/
  downlink : List Sample
deriving DecidableEq, Repr

/-! ## Seats, gains, timers, cue sets -/

/-- A crossfade in progress (R93). -/
structure Crossfade where
  old : Side
  new : Side
  /-- Position k, 1 to N. -/
  k : Nat
  /-- Length N. -/
  n : Nat
deriving DecidableEq, Repr

/-- A seat record (R84). The voice is absent for NONE. -/
structure SeatRecord where
  mode : SeatMode
  fadeLength : Nat
  returnHold : Nat
  stepSize : Nat
  voice : Option Side
  crossfade : Option Crossfade
  /-- Preferred-stable count (R90). -/
  stable : Nat
deriving DecidableEq, Repr

/-- A ramped gain (R104). -/
structure Gain where
  current : Nat
  target : Nat
  step : Nat
deriving DecidableEq, Repr

/-- The 24 settable cells, the 5 output levels and the sidetone ceiling (R102 to R107). The fixed cell (UPLINK, FAR)
holds nothing: it reads as 0 (R103). -/
structure Gains where
  /-- (UPLINK, VOICEs). -/
  uplinkVoice : Bank 4 Gain
  /-- (DOWNs, FAR). -/
  downFar : Bank 4 Gain
  /-- (DOWNs, VOICEt), by s and then t. -/
  downVoice : Bank 4 (Bank 4 Gain)
  uplinkLevel : Gain
  downLevel : Bank 4 Gain
  ceiling : Nat
deriving DecidableEq, Repr

/-- An interval timer (R154). -/
structure Timer where
  load : Nat
  mode : TimerMode
  source : TimerSource
  state : TimerState
  count : Nat
deriving DecidableEq, Repr

/-- A cue set (R161). The cause is absent for NONE; the chain holds, for each set, whether it is a member. -/
structure CueSet where
  cause : Option Cause
  action : Action
  rep : Repeat
  chain : Bank 4 Bool
  notify : Bool
  enabled : Bool
  fireCount : Nat
deriving DecidableEq, Repr

/-- The fault record of the Cue Unit (R161). -/
structure CueFault where
  set : Fin 4
  reason : FaultReason
deriving DecidableEq, Repr

/-! ## The pass in flight -/

/-- What the snapshot holds of one link of the LIVE set (R124). -/
structure PassLink where
  seat : Fin 4
  side : Side
  /-- Pass drift (R64). -/
  drift : Int
  /-- The 64 resampled outputs. -/
  outputs : List Sample
deriving DecidableEq, Repr

/-- What the snapshot holds of one seat (R124). -/
structure PassSeat where
  voice : Option Side
  crossfade : Option Crossfade
  left : Option (Fin 8)
  right : Option (Fin 8)
deriving DecidableEq, Repr

/-- The snapshot of a pass in flight (R124). -/
structure Snapshot where
  /-- The engine state at the boundary. -/
  engine : EngineState
  /-- Present for exactly the links of the LIVE set. -/
  links : Bank 8 (Option PassLink)
  seats : Bank 4 PassSeat
  /-- The far-end block. -/
  farEnd : List Sample
  /-- Effective gains of the UPLINK row, by the source's voice (its FAR gain is 0). -/
  uplinkGains : Bank 4 Nat
  /-- Effective gains (DOWNs, FAR). -/
  farGains : Bank 4 Nat
  /-- Effective gains (DOWNs, VOICEt), by s and then t. -/
  voiceGains : Bank 4 (Bank 4 Nat)
deriving DecidableEq, Repr

/-- One output's clip flag and clip count (R128). -/
structure ClipState where
  flag : Bool
  count : Nat
deriving DecidableEq, Repr

/-! ## Ports, control link, notices -/

/-- The five counters of the radio packet port (R46). -/
structure RadioCounters where
  formatErrors : Nat
  unmatched : Nat
  idleDiscards : Nat
  statusOnly : Nat
  framesSent : Nat
deriving DecidableEq, Repr

/-- An Audio Down frame under transmission (R44, R45). -/
structure DownFrame where
  link : Fin 8
  handle : BitVec 12
  seq : Byte
  samples : List Sample
deriving DecidableEq, Repr

/-- The call PCM port (chapter 8). -/
structure PcmPort where
  /-- Far-end FIFO, oldest first. -/
  farEnd : List Sample
  /-- Uplink FIFO, oldest first. -/
  uplink : List Sample
  side : UplinkSide
  lock : LockState
  /-- Sync run count. -/
  run : Nat
  /-- Sync-seen flag. -/
  seen : Bool
  /-- Boundary count b. -/
  b : Nat
  farEndSlips : Nat
  uplinkSlips : Nat
  /-- The uplink sample being shifted out on DOUT in the frame that the last frame sync began (R137, R140). -/
  dout : Sample
deriving DecidableEq, Repr

/-- A request message in the request buffer (R174). -/
structure HeldRequest where
  /-- The first 64 bytes written, or all of them. -/
  bytes : List Byte
  /-- How many bytes were written, those beyond the 64th included. -/
  count : Nat
deriving DecidableEq, Repr

/-- A response message (R176). -/
structure Response where
  code : Byte
  tag : Byte
  status : Status
  body : List Byte
deriving DecidableEq, Repr

/-- The interface state, with the request buffer (held exactly while EXECUTING) and the response buffer (held exactly
while RESPONSE_PENDING) (chapter 10, R174, R176, R177). -/
inductive Interface where
  | idle
  | executing (held : HeldRequest)
  | responsePending (response : Response)
deriving DecidableEq, Repr

/-- A transaction that the part takes: what the fall of CS_N fixed of it (R172, R174, R177), and what has been shifted in on
MOSI since. -/
structure TakenTransaction where
  /-- The status byte sent during the first byte. -/
  status : Byte
  /-- The response a READ sends, or absent: a length of 0. -/
  sends : Option Response
  /-- The transaction type, once the first byte is in. -/
  kind : Option Byte
  /-- The first 64 bytes after the type, or all of them. -/
  bytes : List Byte
  /-- How many bytes came after the type, those beyond the 64th included. -/
  count : Nat
deriving DecidableEq, Repr

/-- Where the Control Link Interface stands between a fall and a rise of CS_N (R172). -/
inductive Transaction where
  /-- CS_N is high. -/
  | idle
  /-- CS_N is low, in a transaction that fell before READY or that a reset abandoned: MISO sends 0, and its end has no
  effect. -/
  | ignored
  /-- CS_N is low, in a transaction that fell with the part READY. -/
  | taken (transaction : TakenTransaction)
deriving DecidableEq, Repr

/-- Where the receive side of the radio packet port stands (R25). -/
inductive Reception where
  /-- PVALID is low. -/
  | waiting
  /-- PVALID is high, but rose before READY, or a reset has come since: the port waits for the next rise. -/
  | ignoring
  /-- A frame is being received: the receive buffer, which stores its first 515 bytes, and its byte count, those beyond the
  515th included. -/
  | receiving (bytes : List Byte) (count : Nat)
deriving DecidableEq, Repr

/-- One flag per notice kind (R178); also the notice mask, where a set flag is a masked kind (R179). -/
structure NoticeFlags where
  clock : Bool
  link : Bool
  seat : Bool
  cue : Bool
  clip : Bool
  queue : Bool
deriving DecidableEq, Repr

/-- Where the part stands between reset and READY (R183): RESET_N low, start-up, or READY. -/
inductive Phase where
  | inReset | startUp | ready
deriving DecidableEq, Repr

/-- Why the part could stop. It has no constructor: the spec gives every command its effect in every state, and
names none after which the part stops. -/
inductive Fault where
deriving DecidableEq, Repr

/-- Why a command could have no meaning in the model. -/
inductive Refusal where
  /-- Raised only by an arm of `exec` whose command has no meaning yet; there is no such arm. Safe. -/
  | notModelled (mnemonic : String)
deriving DecidableEq, Repr

/-! ## State -/

/-- The state of the part. -/
structure State where
  /-- RESET_N low, start-up, or READY (R183). -/
  phase : Phase
  /-- Interface state, request buffer and response buffer. -/
  iface : Interface
  /-- BUSY (R173). -/
  busy : Bool
  /-- The transaction in progress, if any (R172). -/
  transaction : Transaction
  /-- The bytes that MISO has sent in the transaction in progress, or in the last one that ended. -/
  miso : List Byte
  /-- The six notice flags (R178). -/
  notices : NoticeFlags
  /-- The notice mask (R179). -/
  mask : NoticeFlags
  /-- Per-link change set (R178). -/
  linkChanges : Bank 8 Bool
  /-- Per-seat change set (R178). -/
  seatChanges : Bank 4 Bool
  /-- The eight slots; absent is FREE (R1). -/
  slots : Bank 8 (Option LinkRecord)
  /-- The frame being received, with the receive buffer (R25). -/
  reception : Reception
  radio : RadioCounters
  /-- Transmit arbiter pointer (R43). -/
  arbiter : Fin 8
  /-- The Audio Down frame under transmission; PVALID_OUT is high exactly while there is one (R44). -/
  sending : Option DownFrame
  seats : Bank 4 SeatRecord
  gains : Gains
  engine : EngineState
  /-- The pass in flight, or none (R119). -/
  pass : Option Snapshot
  /-- Clip state of UPLINK. -/
  uplinkClip : ClipState
  /-- Clip state of DOWN0 to DOWN3. -/
  downClip : Bank 4 ClipState
  /-- Ticks since boundary, T (R152). -/
  ticks : Nat
  /-- Holdover time H, ms (R147). -/
  holdover : Nat
  pcm : PcmPort
  timers : Bank 4 Timer
  cues : Bank 4 CueSet
  /-- The fault record; the cue-fault flag is set exactly while it is present (R161). -/
  cueFault : Option CueFault
  /-- The MODEL's own field: the commands that wait, the next one first. -/
  pending : List Instr
deriving DecidableEq, Repr

/-! ## Reset -/

/-- A gain after reset with this target (R106). -/
def Gain.atReset (target : Nat) : Gain := { current := 0, target, step := 512 }

/-- The gains after reset (R106). -/
def Gains.atReset : Gains where
  uplinkVoice := Bank.fill 4 (Gain.atReset 16384)
  downFar := Bank.fill 4 (Gain.atReset 16384)
  downVoice := Bank.ofFn fun s => Bank.ofFn fun t => Gain.atReset (if s = t then 0 else 8192)
  uplinkLevel := Gain.atReset 16384
  downLevel := Bank.fill 4 (Gain.atReset 16384)
  ceiling := 2048

/-- A seat record after reset (R84). -/
def SeatRecord.atReset : SeatRecord where
  mode := .prefer .left
  fadeLength := 8
  returnHold := 50
  stepSize := 1024
  voice := none
  crossfade := none
  stable := 0

/-- A timer after reset (R154). -/
def Timer.atReset : Timer where
  load := 1000
  mode := .oneShot
  source := .tick
  state := .idle
  count := 0

/-- A cue set after reset (R161). -/
def CueSet.atReset : CueSet where
  cause := none
  action := .none
  rep := .always
  chain := Bank.fill 4 false
  notify := false
  enabled := false
  fireCount := 0

/-- The call PCM port after reset (chapter 8, table at its head; R153). -/
def PcmPort.atReset : PcmPort where
  farEnd := []
  uplink := []
  side := .waiting
  lock := .unlocked
  run := 0
  seen := false
  b := 0
  farEndSlips := 0
  uplinkSlips := 0
  dout := 0

/-- No notice flag set. -/
def NoticeFlags.clear : NoticeFlags := ⟨false, false, false, false, false, false⟩

/-- The part right after reset: every block at its reset values and start-up begun (R183, R184). -/
def State.reset : State where
  phase := .startUp
  iface := .idle
  busy := false
  transaction := .idle
  miso := []
  notices := NoticeFlags.clear
  mask := NoticeFlags.clear
  linkChanges := Bank.fill 8 false
  seatChanges := Bank.fill 4 false
  slots := Bank.fill 8 none
  reception := .waiting
  radio := ⟨0, 0, 0, 0, 0⟩
  arbiter := 7
  sending := none
  seats := Bank.fill 4 SeatRecord.atReset
  gains := Gains.atReset
  engine := .stopped
  pass := none
  uplinkClip := ⟨false, 0⟩
  downClip := Bank.fill 4 ⟨false, 0⟩
  ticks := 0
  holdover := 0
  pcm := PcmPort.atReset
  timers := Bank.fill 4 Timer.atReset
  cues := Bank.fill 4 CueSet.atReset
  cueFault := none
  pending := []

end Sys2Proof.Machine
end

