-- ==== Sys2Proof/Machine/Flags.lean ====
section
/-! DEFINITION. The notice flags, their mask, the change sets, the top-notice code, ATTN and the status byte
(chapter 10). -/

namespace Sys2Proof.Machine

open Sys2Proof

/-- The six kinds in the order of their codes 1 to 6 (R178). -/
def NoticeKind.all : List NoticeKind := [.clock, .link, .seat, .cue, .clip, .queue]

/-- A kind's code (R178). -/
def NoticeKind.code : NoticeKind → Nat
  | .clock => 1
  | .link => 2
  | .seat => 3
  | .cue => 4
  | .clip => 5
  | .queue => 6

/-- The flag of one kind. -/
def NoticeFlags.get (f : NoticeFlags) : NoticeKind → Bool
  | .clock => f.clock
  | .link => f.link
  | .seat => f.seat
  | .cue => f.cue
  | .clip => f.clip
  | .queue => f.queue

/-- The flags made by giving each kind's flag. -/
def NoticeFlags.ofFn (f : NoticeKind → Bool) : NoticeFlags :=
  ⟨f .clock, f .link, f .seat, f .cue, f .clip, f .queue⟩

/-- The flags with one kind's set; setting a set flag leaves it set (R178). -/
def NoticeFlags.raise (f : NoticeFlags) (k : NoticeKind) : NoticeFlags :=
  NoticeFlags.ofFn fun j => j == k || f.get j

/-- The flags with those of the kinds for which `c` holds cleared. -/
def NoticeFlags.lower (f : NoticeFlags) (c : NoticeKind → Bool) : NoticeFlags :=
  NoticeFlags.ofFn fun j => f.get j && !c j

/-- A set of kinds as one byte: bit (code − 1) for each kind in the set (section 11.2). -/
def NoticeFlags.byte (f : NoticeFlags) : Byte :=
  BitVec.ofNat 8 ((NoticeKind.all.map fun k => if f.get k then 2 ^ (k.code - 1) else 0).sum)

/-- The part with one notice flag set. -/
def State.raise (s : State) (k : NoticeKind) : State := { s with notices := s.notices.raise k }

/-- The part with a link's change flag and the LINK notice set, which R15 sets together. -/
def State.markLink (s : State) (i : Fin 8) : State :=
  { s with linkChanges := s.linkChanges.set i true, notices := s.notices.raise .link }

/-- Whether the part has completed start-up: READY (R173). -/
def State.isReady (s : State) : Bool := s.phase == .ready

/-- Whether a kind's flag is set and unmasked (R179). -/
def State.shows (s : State) (k : NoticeKind) : Bool := s.notices.get k && !s.mask.get k

/-- The top-notice code: the code of the unmasked set flag with the highest priority, or 0 (R179). -/
def State.topNotice (s : State) : Nat :=
  match NoticeKind.all.find? s.shows with
  | some k => k.code
  | none => 0

/-- RESPONSE PENDING: set exactly when the interface state is RESPONSE_PENDING (chapter 10). -/
def State.responsePending (s : State) : Bool :=
  match s.iface with
  | .responsePending _ => true
  | _ => false

/-- The level of ATTN, which follows each change at its instant (R179). -/
def State.attn (s : State) : Bool :=
  s.isReady && (s.responsePending || NoticeKind.all.any s.shows)

/-- The status byte: READY in bit 7, RESPONSE PENDING in bit 6, BUSY in bit 5, the top-notice code in bits 2 to 0;
all 0 while READY is clear (R173, section 11.2). -/
def State.statusByte (s : State) : Byte :=
  if s.isReady then
    BitVec.ofNat 8 (128 + (if s.responsePending then 64 else 0) + (if s.busy then 32 else 0) + s.topNotice)
  else 0

/-- The level of PVALID_OUT: high while an Audio Down frame is under transmission (R44). -/
def State.pvalidOut (s : State) : Bool := s.sending.isSome

/-- One flag per link index as a byte, bit `i` for index `i` (section 11.2). -/
def linkFlagsByte (b : Bank 8 Bool) : Byte :=
  BitVec.ofNat 8 (((List.finRange 8).map fun i => if b.get i then 2 ^ i.val else 0).sum)

/-- One flag per seat as a byte, bit `s` for seat `s` (section 11.2). -/
def seatFlagsByte (b : Bank 4 Bool) : Byte :=
  BitVec.ofNat 8 (((List.finRange 4).map fun i => if b.get i then 2 ^ i.val else 0).sum)

end Sys2Proof.Machine
end

