-- ==== Sys2Proof/Machine/Ops.lean ====
section
/-! DEFINITION. The operations the commands share: saturating counters, the two link queues, what takes a link out of
LIVE, what an event does to one link and to all links, and the events' cause lists. -/

namespace Sys2Proof.Machine

open Sys2Proof

/-- A counter that stops at 65,535 (R7, R46, R128, R153, R161). -/
def satAdd (a n : Nat) : Nat := min Config.counterMax (a + n)

/-! ## What an event makes of the part -/

/-- An event under way: the part as its work has left it, and the causes it has issued, which reach the Cue Unit
together when the work is done (R162). -/
structure Event where
  st : State
  causes : List Cause
deriving DecidableEq, Repr

/-- The start of an event's work. -/
def Event.start (s : State) : Event := { st := s, causes := [] }

/-- The event with one more cause issued. -/
def Event.issue (e : Event) (c : Cause) : Event := { e with causes := e.causes ++ [c] }

/-- The event with the part changed. -/
def Event.onState (e : Event) (f : State → State) : Event := { e with st := f e.st }

/-- What an event does to one link record: the record afterwards, whether its state changed (so that R15 sets its
change flag and LINK), whether a queue lost audio (so that R61 sets QUEUE), and the causes issued. -/
structure LinkStep where
  record : LinkRecord
  changed : Bool := false
  lossy : Bool := false
  causes : List Cause := []
deriving DecidableEq, Repr

/-- The event does this to the record in slot `i`. -/
def Event.stepLink (e : Event) (i : Fin 8) (p : LinkStep) : Event where
  st := { e.st with
    slots := e.st.slots.set i (some p.record)
    linkChanges := e.st.linkChanges.set i (p.changed || e.st.linkChanges.get i)
    notices := { e.st.notices with
      link := p.changed || e.st.notices.link
      queue := p.lossy || e.st.notices.queue } }
  causes := e.causes ++ p.causes

/-- The event does `f i r` to each record `r`, in slot `i`. A FREE slot is passed over. Records do not depend on one
another (R121), so this has no order. -/
def Event.stepLinks (e : Event) (f : Fin 8 → LinkRecord → LinkStep) : Event where
  st := { e.st with
    slots := e.st.slots.mapIdx fun i o => o.map fun r => (f i r).record
    linkChanges := e.st.linkChanges.mapIdx fun i b => b || (e.st.slots.get i).any fun r => (f i r).changed
    notices := { e.st.notices with
      link := e.st.notices.link || e.st.slots.any fun i o => o.any fun r => (f i r).changed
      queue := e.st.notices.queue || e.st.slots.any fun i o => o.any fun r => (f i r).lossy } }
  causes := e.causes ++ (List.finRange 8).flatMap fun i =>
    ((e.st.slots.get i).map fun r => (f i r).causes).getD []

/-! ## The link table -/

/-- The index of the record that holds a handle (R9). -/
def State.byHandle (s : State) (handle : Nat) : Option (Fin 8) :=
  s.slots.find? fun o => o.any fun r => r.config.handle.toNat == handle

/-- The record a handle designates, with its index (R9). -/
def State.recordOf (s : State) (handle : Nat) : Option (Fin 8 × LinkRecord) :=
  (s.byHandle handle).bind fun i => (s.slots.get i).map fun r => (i, r)

/-- The index of the record that holds a seat and side: one entry of the seat summary (R17). -/
def holder (slots : Bank 8 (Option LinkRecord)) (seat : Fin 4) (side : Side) : Option (Fin 8) :=
  slots.find? fun o => o.any fun r => r.config.seat == seat && r.config.side == side

/-- The lowest FREE slot (R1). -/
def State.freeSlot (s : State) : Option (Fin 8) := s.slots.find? Option.isNone

/-! ## What happens to one link record -/

/-- QUIET, with last level, talk-on run count and hang count 0 (R98). -/
def LinkRecord.hush (r : LinkRecord) : LinkRecord :=
  { r with activity := .quiet, lastLevel := 0, talkRun := 0, hangCount := 0 }

/-- The causes of a departure from LIVE other than a call end: LINK_LEFT_LIVE, then TALK_END for a TALKING link; none
for a record that was not LIVE (R15, R98). -/
def LinkRecord.departure (r : LinkRecord) (i : Fin 8) : List Cause :=
  if r.state = .live then
    .linkLeftLive i :: (if r.activity = .talking then [.talkEnd i] else [])
  else []

/-- Entry to LOST (R18). -/
def LinkRecord.lose (r : LinkRecord) (i : Fin 8) : LinkStep where
  record := { r.hush with
    state := .lost, jitter := [], downlink := [], expected := none, remaining := 0, starve := 0
    counters := { r.counters with losses := satAdd r.counters.losses 1 } }
  changed := true
  causes := r.departure i

/-- Entry to LIVE, the values of R50. -/
def LinkRecord.enterLive (r : LinkRecord) : LinkRecord :=
  { r.hush with
    state := .live, phase := 0, starve := 0, windowSum := 0, windowCount := 0, downPosition := 0, heldSample := 0 }

/-- CALL END and the automatic call end (R22). -/
def LinkRecord.endCall (r : LinkRecord) (i : Fin 8) : LinkStep where
  record := { r.hush with
    state := .standby, jitter := [], downlink := [], expected := none, remaining := 0, starve := 0
    belowLow := false }
  changed := r.state != .standby
  causes := if r.state = .live then [.linkLeftLive i] else []

/-- All nine counters 0 (R7). -/
def LinkCounters.zero : LinkCounters := ⟨0, 0, 0, 0, 0, 0, 0, 0, 0⟩

/-- A record with this configuration and the admission values of section 1.3 (R8). -/
def LinkRecord.admitted (c : LinkConfig) : LinkRecord where
  config := c
  state := .standby
  expected := none
  drift := 0
  phase := 0
  windowSum := 0
  windowCount := 0
  starve := 0
  remaining := 0
  activity := .quiet
  lastLevel := 0
  talkRun := 0
  hangCount := 0
  belowLow := false
  lastBlock := none
  downPosition := 0
  heldSample := 0
  downSeq := 0
  counters := LinkCounters.zero
  jitter := []
  downlink := []

/-- The state after a jitter queue write: the newest 768 of the old contents and the new samples together, the rest
counted as overflow (R49). -/
def LinkRecord.writeJitter (r : LinkRecord) (xs : List Sample) : LinkRecord :=
  let all := r.jitter ++ xs
  let excess := all.length - Config.queueCapacity
  { r with
    jitter := all.drop excess
    counters := { r.counters with overflow := satAdd r.counters.overflow excess } }

/-- Whether a jitter queue write of `n` samples discards any (R49). -/
def LinkRecord.jitterOverflows (r : LinkRecord) (n : Nat) : Bool :=
  decide (r.jitter.length + n > Config.queueCapacity)

/-- The state after a downlink queue write: the samples that fit are added, the rest of the new ones dropped and
counted (R58). -/
def LinkRecord.writeDownlink (r : LinkRecord) (xs : List Sample) : LinkRecord :=
  let room := Config.queueCapacity - r.downlink.length
  { r with
    downlink := r.downlink ++ xs.take room
    counters := { r.counters with downDropped := satAdd r.counters.downDropped (xs.length - room) } }

/-- Whether a downlink queue write of `n` samples drops any (R58). -/
def LinkRecord.downlinkOverflows (r : LinkRecord) (n : Nat) : Bool :=
  decide (r.downlink.length + n > Config.queueCapacity)

/-! ## Small functions of the manual's names -/

/-- The other side of a seat. -/
def Side.other : Side → Side
  | .left => .right
  | .right => .left

/-- The five outputs in the order UPLINK, DOWN0 to DOWN3. -/
def Output.all : List Output := .uplink :: (List.finRange 4).map .down

/-- The clip state of an output (R128). -/
def State.clipOf (s : State) : Output → ClipState
  | .uplink => s.uplinkClip
  | .down i => s.downClip.get i

/-- The clip state of each output replaced. -/
def State.mapClips (s : State) (f : Output → ClipState → ClipState) : State :=
  { s with
    uplinkClip := f .uplink s.uplinkClip
    downClip := s.downClip.mapIdx fun i c => f (.down i) c }

/-- `f` applied while the part is READY; before that the part takes no event of its ports or Time Base (R183). -/
def State.whenReady (s : State) (f : State → State) : State := if s.isReady then f s else s

end Sys2Proof.Machine
end

