-- ==== Sys2Proof/Machine/GainOps.lean ====
section
/-! DEFINITION. Reading and writing the gains (chapter 6): the fixed cell, the ceiling clamp, the step, the ramp, the
call-level write, and the effective gain of a cell. -/

namespace Sys2Proof.Machine

open Sys2Proof

/-- Whether a gain is an own-voice cell (R102): its DOWN row and its VOICE source carry the same index. -/
def GainName.isOwn : GainName → Bool
  | .cell (.down s) (.voice t) => s == t
  | _ => false

/-- Whether a gain is the fixed cell (R103). -/
def GainName.isFixed : GainName → Bool
  | .cell .uplink .far => true
  | _ => false

/-- An output's level (R105). -/
def Gains.level (g : Gains) : Output → Gain
  | .uplink => g.uplinkLevel
  | .down s => g.downLevel.get s

/-- The ramped gain with this name; none for the fixed cell, which holds no ramp step (R103). -/
def Gains.get? (g : Gains) : GainName → Option Gain
  | .cell .uplink .far => none
  | .cell .uplink (.voice t) => some (g.uplinkVoice.get t)
  | .cell (.down s) .far => some (g.downFar.get s)
  | .cell (.down s) (.voice t) => some ((g.downVoice.get s).get t)
  | .level o => some (g.level o)

/-- The gains with one ramped gain changed by `f`. No write reaches the fixed cell (R103). -/
def Gains.modify (g : Gains) (name : GainName) (f : Gain → Gain) : Gains :=
  match name with
  | .cell .uplink .far => g
  | .cell .uplink (.voice t) => { g with uplinkVoice := g.uplinkVoice.set t (f (g.uplinkVoice.get t)) }
  | .cell (.down s) .far => { g with downFar := g.downFar.set s (f (g.downFar.get s)) }
  | .cell (.down s) (.voice t) =>
    { g with downVoice := g.downVoice.set s ((g.downVoice.get s).set t (f ((g.downVoice.get s).get t))) }
  | .level .uplink => { g with uplinkLevel := f g.uplinkLevel }
  | .level (.down s) => { g with downLevel := g.downLevel.set s (f (g.downLevel.get s)) }

/-- The gains with all 29 ramped gains changed by `f`, the ceiling kept. -/
def Gains.mapAll (g : Gains) (f : Gain → Gain) : Gains where
  uplinkVoice := g.uplinkVoice.map f
  downFar := g.downFar.map f
  downVoice := g.downVoice.map fun row => row.map f
  uplinkLevel := f g.uplinkLevel
  downLevel := g.downLevel.map f
  ceiling := g.ceiling

/-- A cell's current; the fixed cell reads as 0 (R103). -/
def Gains.cellCurrent (g : Gains) (o : Output) (s : Source) : Nat :=
  match g.get? (.cell o s) with
  | some gain => gain.current
  | none => 0

/-- The target as stored: an own-voice cell's is held to the sidetone ceiling (R107). -/
def Gains.storedTarget (g : Gains) (name : GainName) (target : Nat) : Nat :=
  if name.isOwn then min target g.ceiling else target

/-- SET GAIN's write, and SET_TARGET's with no ramp step (R112, R164). -/
def Gains.writeTarget (g : Gains) (name : GainName) (target : Nat) (step : Option Nat) : Gains :=
  g.modify name fun x => { x with target := g.storedTarget name target, step := step.getD x.step }

/-- FADE's write (R113). -/
def Gains.fade (g : Gains) (name : GainName) : Gains := g.modify name fun x => { x with target := 0 }

/-- CUT's write (R114). -/
def Gains.cut (g : Gains) (name : GainName) : Gains := g.modify name fun x => { x with current := 0, target := 0 }

/-- A target stepped by an amount, stopping at 0 and at 32,767 (R115). -/
def stepped (d : Direction) (amount target : Nat) : Nat :=
  match d with
  | .up => min Config.gainMax (target + amount)
  | .down => target - amount

/-- The step of an output level (R115). -/
def Gains.stepLevel (g : Gains) (o : Output) (d : Direction) (amount : Nat) : Gains :=
  g.modify (.level o) fun x => { x with target := stepped d amount x.target }

/-- One ramp update: the current moves toward the target by at most the ramp step, never past it (R109). -/
def Gain.ramp (x : Gain) : Gain :=
  if x.current < x.target then { x with current := min x.target (x.current + x.step) }
  else { x with current := max x.target (x.current - x.step) }

/-- A gain held to a ceiling (R108). -/
def Gain.clampTo (c : Nat) (x : Gain) : Gain := { x with current := min x.current c, target := min x.target c }

/-- A new sidetone ceiling: stored, and the four own-voice cells clamped to it where it is lower than the old one
(R108). Raising it, or writing the value it has, changes no cell. -/
def Gains.setCeiling (g : Gains) (c : Nat) : Gains :=
  { g with
    ceiling := c
    downVoice := g.downVoice.mapIdx fun s row =>
      if c < g.ceiling then row.set s ((row.get s).clampTo c) else row }

/-- CALL END, the automatic call end and CALL CLEAR: every current 0, targets, steps and ceiling kept (R118). -/
def Gains.endCall (g : Gains) : Gains := g.mapAll fun x => { x with current := 0 }

/-- The ramps of one completion (R109). -/
def Gains.ramp (g : Gains) : Gains := g.mapAll Gain.ramp

/-- The effective gain of a cell: the product of its current and of its row's level current, over unity, rounded half
up, at most 32,767 (R125). -/
def effective (cell level : Nat) : Nat := min Config.gainMax ((cell * level + 8192) / Config.unity)

/-- The effective gain of a cell of the matrix, by both currents as they stand (R125). -/
def Gains.effective (g : Gains) (o : Output) (s : Source) : Nat :=
  Sys2Proof.Machine.effective (g.cellCurrent o s) (g.level o).current

end Sys2Proof.Machine
end

