-- ==== Sys2Proof/Machine/SeatOps.lean ====
section
/-! DEFINITION. Voice selection, the switch, the crossfade and the mode write of a seat (chapter 5). -/

namespace Sys2Proof.Machine

open Sys2Proof

/-- The target of a seat's selection and the preferred-stable count it leaves (R88 to R90), from the seat record and
from which sides are live in the pass. -/
def SeatRecord.select (r : SeatRecord) (live : Side → Bool) : Option Side × Nat :=
  match r.mode with
  | .fixed p => (if live p then some p else none, 0)
  | .prefer p =>
    let a := p.other
    if r.voice = some a ∧ live p ∧ live a then
      if r.returnHold + 1 ≤ r.stable + 1 then (some p, r.stable + 1) else (some a, r.stable + 1)
    else (if live p then some p else if live a then some a else none, 0)

/-- The crossfade that a switch leaves (R91). -/
def SeatRecord.switchFade (r : SeatRecord) (target : Option Side) : Option Crossfade :=
  match r.voice, target with
  | some old, some new =>
    some { old := match r.crossfade with
             | some x => x.new
             | none => old
           new, k := 1, n := r.fadeLength }
  | _, _ => none

/-- A seat record after a pass start's selection (R87, R91). -/
def SeatRecord.selected (r : SeatRecord) (live : Side → Bool) : SeatRecord :=
  let (target, stable) := r.select live
  if target = r.voice then { r with stable }
  else { r with voice := target, stable := 0, crossfade := r.switchFade target }

/-- Whether a selection switches the seat's voice (R91). -/
def SeatRecord.switches (r : SeatRecord) (live : Side → Bool) : Bool := (r.select live).1 != r.voice

/-- A seat's mode written; a change of it sets the preferred-stable count to 0 (R92). -/
def SeatRecord.writeMode (r : SeatRecord) (m : SeatMode) : SeatRecord :=
  { r with mode := m, stable := if m = r.mode then r.stable else 0 }

/-- The crossfade after a completion: one position on, or absent when it was at its last (R93). -/
def SeatRecord.advance (r : SeatRecord) : SeatRecord :=
  { r with crossfade := r.crossfade.bind fun x => if x.k < x.n then some { x with k := x.k + 1 } else none }

/-- A call end or clear: voice NONE, crossfade absent, count 0 (R100). -/
def SeatRecord.endCall (r : SeatRecord) : SeatRecord := { r with voice := none, crossfade := none, stable := 0 }

/-- The part with one seat's record changed. -/
def State.onSeat (s : State) (i : Fin 4) (f : SeatRecord → SeatRecord) : State :=
  { s with seats := s.seats.set i (f (s.seats.get i)) }

end Sys2Proof.Machine
end

