-- ==== Sys2Proof/Machine/TimerOps.lean ====
section
/-! DEFINITION. What the four interval timers do with a tick, with a start and with a stop (chapter 9). -/

namespace Sys2Proof.Machine

open Sys2Proof

/-- Whether a count event reaches this timer and counts: it is RUNNING, and its source is TICK (every call of this is
for one tick), or it is CASCADE and the timer below it expires at this instant (R155, R156). -/
def Timer.counts (t : Timer) (belowExpires : Bool) : Bool :=
  t.state == .running && (t.source == .tick || belowExpires)

/-- Whether the timer's count reaches 0 at this instant: its expiry (R155). -/
def Timer.expires (t : Timer) (belowExpires : Bool) : Bool :=
  t.counts belowExpires && decide (t.count ≤ 1)

/-- The timer after this instant: counted down by 1, or at its expiry reloaded when PERIODIC and IDLE with count 0 when
ONE_SHOT (R155). -/
def Timer.counted (t : Timer) (belowExpires : Bool) : Timer :=
  if t.expires belowExpires then
    match t.mode with
    | .periodic => { t with count := t.load }
    | .oneShot => { t with count := 0, state := .idle }
  else if t.counts belowExpires then { t with count := t.count - 1 }
  else t

/-- Whether timer `i` expires at a tick; expiries run up the cascade at the instant of the tick (R156). -/
def timerDue (ts : Bank 4 Timer) : Fin 4 → Bool
  | 0 => (ts.get 0).expires false
  | 1 => (ts.get 1).expires ((ts.get 0).expires false)
  | 2 => (ts.get 2).expires ((ts.get 1).expires ((ts.get 0).expires false))
  | 3 => (ts.get 3).expires ((ts.get 2).expires ((ts.get 1).expires ((ts.get 0).expires false)))

/-- Whether the timer below timer `i` expires at a tick; timer 0 has no timer below it. -/
def belowDue (ts : Bank 4 Timer) : Fin 4 → Bool
  | 0 => false
  | 1 => timerDue ts 0
  | 2 => timerDue ts 1
  | 3 => timerDue ts 2

/-- The timers after a tick (R155, R156). -/
def tickTimers (ts : Bank 4 Timer) : Bank 4 Timer := ts.mapIdx fun i t => t.counted (belowDue ts i)

/-- The TIMER causes of a tick (R155). -/
def timerCauses (ts : Bank 4 Timer) : List Cause := ((List.finRange 4).filter (timerDue ts)).map .timer

/-- Whether timer `i` has source CASCADE and the timer below it is IDLE, the condition under which it cannot be started
(R158). Timer 0 has no timer below it. -/
def cascadeIdle (ts : Bank 4 Timer) (i : Fin 4) : Bool :=
  (ts.get i).source == .cascade &&
    match i with
    | 0 => false
    | 1 => (ts.get 0).state == .idle
    | 2 => (ts.get 1).state == .idle
    | 3 => (ts.get 2).state == .idle

/-- The timers with timer `i` RUNNING from its load (R158). -/
def startedTimers (ts : Bank 4 Timer) (i : Fin 4) : Bank 4 Timer :=
  ts.set i { ts.get i with state := .running, count := (ts.get i).load }

/-- A timer stopped (R159). -/
def Timer.stopped (t : Timer) : Timer := { t with state := .idle, count := 0 }

/-- The timers with timer `i` stopped (R159). -/
def stoppedTimers (ts : Bank 4 Timer) (i : Fin 4) : Bank 4 Timer := ts.set i (ts.get i).stopped

end Sys2Proof.Machine
end

