-- ==== Sys2Proof/Machine/CueUnit.lean ====
section
/-! DEFINITION. The Cue Unit at work: actions, firing, chains, faults, and the handling of a cause group (chapter 9). -/

namespace Sys2Proof.Machine

open Sys2Proof

/-- What the STEP action moves an output level by: the seat's step size for a DOWN level, 1,024 for the UPLINK level
(R164). -/
def State.stepAmount (s : State) : Output → Nat
  | .uplink => Config.uplinkStep
  | .down i => (s.seats.get i).stepSize

/-- Why an action cannot be performed, if it cannot (R166). -/
def State.actionFault (s : State) : Action → Option FaultReason
  | .startTimer i => if cascadeIdle s.timers i then some .cascadeIdle else none
  | .prefer seat side => if (holder s.slots seat side).isNone then some .sideEmpty else none
  | _ => none

/-- The write of an action that can be performed (R164). -/
def State.act (s : State) : Action → State
  | .none => s
  | .setTarget g v => { s with gains := s.gains.writeTarget g v none }
  | .fade g => { s with gains := s.gains.fade g }
  | .cut g => { s with gains := s.gains.cut g }
  | .step o d => { s with gains := s.gains.stepLevel o d (s.stepAmount o) }
  | .startTimer i => { s with timers := startedTimers s.timers i }
  | .stopTimer i => { s with timers := stoppedTimers s.timers i }
  | .prefer seat side => s.onSeat seat fun r => r.writeMode (.prefer side)

/-- The part with one cue set changed. -/
def State.onCue (s : State) (j : Fin 4) (f : CueSet → CueSet) : State :=
  { s with cues := s.cues.set j (f (s.cues.get j)) }

/-- A cue fault of set `j`: the set disabled, CUE set, and the first fault since the flag was clear recorded (R166). -/
def State.cueFaults (s : State) (j : Fin 4) (reason : FaultReason) : State :=
  { (s.onCue j fun c => { c with enabled := false }) with
    notices := s.notices.raise .cue
    cueFault := some (s.cueFault.getD ⟨j, reason⟩) }

/-- A firing of set `j` that performed its action: counted, disabled when ONCE, CUE set when notify is on (R163, steps
3 to 5). -/
def State.cueFired (s : State) (j : Fin 4) : State :=
  { (s.onCue j fun c =>
      { c with
        fireCount := satAdd c.fireCount 1
        enabled := c.enabled && c.rep == .always }) with
    notices := if (s.cues.get j).notify then s.notices.raise .cue else s.notices }

/-- One firing of set `j` without its chain (R163, steps 1 to 5). -/
def State.fireSet (s : State) (j : Fin 4) : State :=
  match s.actionFault (s.cues.get j).action with
  | some reason => s.cueFaults j reason
  | none => (s.act (s.cues.get j).action).cueFired j

/-- Whether set `j`'s action faults as the part stands. -/
def State.fireFaults (s : State) (j : Fin 4) : Option FaultReason := s.actionFault (s.cues.get j).action

/-- The chain of a set that completed its firing without a fault: its members in ascending index, each fired without
its own chain if it is enabled when it is reached (R165). -/
def State.fireChain (s : State) (chain : Bank 4 Bool) : State :=
  (List.finRange 4).foldl
    (fun s j => if chain.get j && (s.cues.get j).enabled then s.fireSet j else s) s

/-- A set fired by its own cause or by FIRE CUE, with its chain when the action did not fault (R163, R165). -/
def State.fireWhole (s : State) (j : Fin 4) : State :=
  match s.fireFaults j with
  | some _ => s.fireSet j
  | none => (s.fireSet j).fireChain (s.cues.get j).chain

/-- Whether a cue set matches a cause of the group (R162). -/
def CueSet.isMatch (c : CueSet) (group : List Cause) : Bool :=
  match c.cause with
  | none => false
  | some cause => group.contains cause

/-- A cause group handled: the four sets in ascending index, each tested as it stands when it is reached, and fired once
if it is enabled and matches (R163). -/
def State.handleGroup (s : State) (group : List Cause) : State :=
  (List.finRange 4).foldl
    (fun s j => if (s.cues.get j).enabled && (s.cues.get j).isMatch group then s.fireWhole j else s) s

/-- The part when an event's work is done and its cause group is handled (R162). -/
def Event.finish (e : Event) : State := e.st.handleGroup e.causes

end Sys2Proof.Machine
end

