-- ==== Sys2Proof/Machine/Operands.lean ====
section
/-! DEFINITION. The wire formats of chapter 11: little-endian fields, the codes of the enumerated fields, the framing of
a held request (R175), the body forms of every request, and the layout of every response. -/

namespace Sys2Proof.Machine

open Sys2Proof

/-! ## Little-endian fields -/

/-- A two-byte field, the least significant byte first. -/
def word16 (lo hi : Byte) : Nat := lo.toNat + 256 * hi.toNat

/-- A number as `n` bytes, the least significant first. -/
def leBytes : Nat → Nat → List Byte
  | 0, _ => []
  | n + 1, v => BitVec.ofNat 8 v :: leBytes n (v / 256)

/-- One byte. -/
def byte1 (v : Nat) : List Byte := leBytes 1 v

/-- Two bytes. -/
def byte2 (v : Nat) : List Byte := leBytes 2 v

/-- Samples as bytes, two each, two's complement, oldest first. -/
def sampleBytes (xs : List Sample) : List Byte := xs.flatMap fun x => byte2 x.toNat

/-- Bytes as samples; a lone last byte holds no sample. -/
def bytesSamples : List Byte → List Sample
  | lo :: hi :: rest => BitVec.ofNat 16 (word16 lo hi) :: bytesSamples rest
  | _ => []

/-! ## Enumeration codes (section 11.2) -/

/-- A one-byte mark or flag. -/
def flagCode (b : Bool) : Nat := if b then 1 else 0

def Side.code : Side → Nat
  | .left => 0
  | .right => 1

def Side.ofCode : Nat → Option Side
  | 0 => some .left
  | 1 => some .right
  | _ => none

def SeatMode.code : SeatMode → Nat
  | .fixed .left => 0
  | .fixed .right => 1
  | .prefer .left => 2
  | .prefer .right => 3

def SeatMode.ofCode : Nat → Option SeatMode
  | 0 => some (.fixed .left)
  | 1 => some (.fixed .right)
  | 2 => some (.prefer .left)
  | 3 => some (.prefer .right)
  | _ => none

def Direction.code : Direction → Nat
  | .up => 0
  | .down => 1

def Direction.ofCode : Nat → Option Direction
  | 0 => some .up
  | 1 => some .down
  | _ => none

def TimerMode.code : TimerMode → Nat
  | .oneShot => 0
  | .periodic => 1

def TimerMode.ofCode : Nat → Option TimerMode
  | 0 => some .oneShot
  | 1 => some .periodic
  | _ => none

def TimerSource.code : TimerSource → Nat
  | .tick => 0
  | .cascade => 1

def TimerSource.ofCode : Nat → Option TimerSource
  | 0 => some .tick
  | 1 => some .cascade
  | _ => none

def TimerState.code : TimerState → Nat
  | .idle => 0
  | .running => 1

def LinkState.code : LinkState → Nat
  | .standby => 0
  | .priming => 1
  | .live => 2
  | .lost => 3

def Activity.code : Activity → Nat
  | .quiet => 0
  | .talking => 1

/-- A voice: 0 LEFT, 1 RIGHT, 0xFF NONE. -/
def voiceCode : Option Side → Nat
  | none => 0xFF
  | some side => side.code

def EngineState.code : EngineState → Nat
  | .stopped => 0
  | .call => 1
  | .holdover => 2

def LockState.code : LockState → Nat
  | .unlocked => 0
  | .locked => 1

def Repeat.code : Repeat → Nat
  | .once => 0
  | .always => 1

def Repeat.ofCode : Nat → Option Repeat
  | 0 => some .once
  | 1 => some .always
  | _ => none

def FaultReason.code : FaultReason → Nat
  | .sideEmpty => 1
  | .cascadeIdle => 2

def Status.code : Status → Nat
  | .ok => 0x00
  | .badRequest => 0x01
  | .badIndex => 0x02
  | .badValue => 0x03
  | .badCell => 0x04
  | .wrongState => 0x05
  | .noRecord => 0x06
  | .tableFull => 0x07
  | .duplicateHandle => 0x08
  | .seatTaken => 0x09
  | .faultPending => 0x0A

/-- Notice kinds are named by their codes 1 to 6. -/
def NoticeKind.ofCode : Nat → Option NoticeKind
  | 1 => some .clock
  | 2 => some .link
  | 3 => some .seat
  | 4 => some .cue
  | 5 => some .clip
  | 6 => some .queue
  | _ => none

/-- A number below `n` as an index. -/
def index? (n v : Nat) : Option (Fin n) := if h : v < n then some ⟨v, h⟩ else none

def Output.code : Output → Nat
  | .uplink => 0
  | .down s => s.val + 1

def Output.ofCode : Nat → Option Output
  | 0 => some .uplink
  | v + 1 => (index? 4 v).map .down

def Source.code : Source → Nat
  | .far => 0
  | .voice s => s.val + 1

def Source.ofCode : Nat → Option Source
  | 0 => some .far
  | v + 1 => (index? 4 v).map .voice

/-- A gain designator: the output, then the source, or 0xFF for the output level itself. -/
def GainName.ofCodes (output source : Nat) : Option GainName :=
  (Output.ofCode output).bind fun o =>
    if source = 0xFF then some (.level o) else (Source.ofCode source).map (.cell o)

def GainName.codes : GainName → List Byte
  | .cell o src => byte1 o.code ++ byte1 src.code
  | .level o => byte1 o.code ++ byte1 0xFF

/-- A cause's code; NONE is 0. -/
def causeCode : Option Cause → Nat
  | none => 0
  | some (.linkLive _) => 1
  | some (.linkLeftLive _) => 2
  | some (.talkStart _) => 3
  | some (.talkEnd _) => 4
  | some (.lowFill _) => 5
  | some (.timer _) => 6
  | some (.clip _) => 7
  | some .clockLost => 8
  | some .clockBack => 9

/-- A cause's operand: a link index, a timer index or an output number; 0 where the cause takes none. -/
def causeOperand : Option Cause → Nat
  | some (.linkLive i) => i.val
  | some (.linkLeftLive i) => i.val
  | some (.talkStart i) => i.val
  | some (.talkEnd i) => i.val
  | some (.lowFill i) => i.val
  | some (.timer t) => t.val
  | some (.clip o) => o.code
  | _ => 0

/-- The cause with this code and operand, or nothing where R167 answers BAD_VALUE. An absent operand is sent as 0, so
an operand other than 0 is present. -/
def cause? (code operand : Nat) : Option (Option Cause) :=
  match code with
  | 0 => if operand = 0 then some none else none
  | 1 => (index? 8 operand).map fun i => some (.linkLive i)
  | 2 => (index? 8 operand).map fun i => some (.linkLeftLive i)
  | 3 => (index? 8 operand).map fun i => some (.talkStart i)
  | 4 => (index? 8 operand).map fun i => some (.talkEnd i)
  | 5 => (index? 8 operand).map fun i => some (.lowFill i)
  | 6 => (index? 4 operand).map fun t => some (.timer t)
  | 7 => (Output.ofCode operand).map fun o => some (.clip o)
  | 8 => if operand = 0 then some (some .clockLost) else none
  | 9 => if operand = 0 then some (some .clockBack) else none
  | _ => none

def Action.code : Action → Nat
  | .none => 0
  | .setTarget .. => 1
  | .fade _ => 2
  | .cut _ => 3
  | .step .. => 4
  | .startTimer _ => 5
  | .stopTimer _ => 6
  | .prefer .. => 7

/-- An action's operand, two bytes. -/
def Action.operandBytes : Action → List Byte
  | .none => byte2 0
  | .setTarget g _ => g.codes
  | .fade g => g.codes
  | .cut g => g.codes
  | .step o _ => (GainName.level o).codes
  | .startTimer t => byte1 t.val ++ byte1 0
  | .stopTimer t => byte1 t.val ++ byte1 0
  | .prefer seat side => byte1 seat.val ++ byte1 side.code

/-- An action's value, two bytes. -/
def Action.valueNat : Action → Nat
  | .setTarget _ v => v
  | .step _ d => d.code
  | _ => 0

/-- The action with this code, operand and value, or nothing where R167 answers BAD_VALUE. -/
def action? (code first second value : Nat) : Option Action :=
  match code with
  | 0 => if first = 0 ∧ second = 0 ∧ value = 0 then some .none else none
  | 1 => if value ≤ Config.gainMax then (GainName.ofCodes first second).map (.setTarget · value) else none
  | 2 => if value = 0 then (GainName.ofCodes first second).map .fade else none
  | 3 => if value = 0 then (GainName.ofCodes first second).map .cut else none
  | 4 =>
    if second = 0xFF then
      (Output.ofCode first).bind fun o => (Direction.ofCode value).map (.step o)
    else none
  | 5 => if second = 0 ∧ value = 0 then (index? 4 first).map .startTimer else none
  | 6 => if second = 0 ∧ value = 0 then (index? 4 first).map .stopTimer else none
  | 7 =>
    if value = 0 then
      (index? 4 first).bind fun s => (Side.ofCode second).map (.prefer s)
    else none
  | _ => none

/-! ## Messages -/

/-- The bytes of a response message: length, request code, tag, status code, body (section 11.2). -/
def Response.bytes (r : Response) : List Byte :=
  byte1 (3 + r.body.length) ++ [r.code, r.tag] ++ byte1 r.status.code ++ r.body

/-- The bytes of an Audio Down frame on PDOUT: kind 0x03, the handle in bits 0 to 11 with bits 12 to 15 as 0, the
downlink sequence number, the sample count, the samples (section 11.1, R44). -/
def DownFrame.bytes (f : DownFrame) : List Byte :=
  byte1 0x03 ++ byte2 f.handle.toNat ++ [f.seq] ++ byte1 f.samples.length ++ sampleBytes f.samples

/-- The request code of a held message, if the message is long enough to hold it. -/
def HeldRequest.code? (h : HeldRequest) : Option Byte := h.bytes[1]?

/-- The tag of a held message, if the message is long enough to hold it. -/
def HeldRequest.tag? (h : HeldRequest) : Option Byte := h.bytes[2]?

/-- The tag and the body of a held message whose frame is right: at most 64 bytes were written, they hold length, code
and tag, and the length counts the bytes that follow it (R175). -/
def HeldRequest.framed (h : HeldRequest) : Option (Byte × List Byte) :=
  match h.bytes with
  | len :: _ :: tag :: body =>
    if h.count ≤ Config.requestCapacity ∧ h.count = h.bytes.length ∧ len.toNat + 1 = h.count then some (tag, body)
    else none
  | _ => none

/-- The response to a request refused by the framing checks: BAD_REQUEST with an empty body, the code and the tag as
received, or 0 in place of either when the message was too short to hold it (R175). -/
def HeldRequest.refusal (h : HeldRequest) : Response where
  code := h.code?.getD 0
  tag := h.tag?.getD 0
  status := .badRequest
  body := []

/-! ## Request bodies (section 11.2). `none` is a body whose length fits no form of the request. -/

/-- A body of no byte. -/
def bodyNone : List Byte → Option Unit
  | [] => some ()
  | _ => none

/-- A body of one byte: an index. -/
def bodyByte : List Byte → Option Nat
  | [a] => some a.toNat
  | _ => none

/-- A body of one two-byte field. -/
def bodyWord : List Byte → Option Nat
  | [lo, hi] => some (word16 lo hi)
  | _ => none

/-- A body of two one-byte fields. -/
def bodyPair : List Byte → Option (Nat × Nat)
  | [a, b] => some (a.toNat, b.toNat)
  | _ => none

/-- Entries of field number (1) and value (2). -/
def bodyEntries : List Byte → Option (List (Nat × Nat))
  | [] => some []
  | f :: lo :: hi :: rest => (bodyEntries rest).map ((f.toNat, word16 lo hi) :: ·)
  | _ => none

/-- The body of ADMIT LINK: handle, seat, side, block length, then 0 to 8 entries. -/
structure AdmitBody where
  handle : Nat
  seat : Nat
  side : Nat
  blockLength : Nat
  entries : List (Nat × Nat)
deriving DecidableEq, Repr

def bodyAdmit : List Byte → Option AdmitBody
  | lo :: hi :: seat :: side :: block :: rest =>
    (bodyEntries rest).bind fun es =>
      if es.length ≤ 8 then some ⟨word16 lo hi, seat.toNat, side.toNat, block.toNat, es⟩ else none
  | _ => none

/-- The body of AMEND LINK: index, then 1 to 11 entries. -/
def bodyAmend : List Byte → Option (Nat × List (Nat × Nat))
  | i :: rest =>
    (bodyEntries rest).bind fun es =>
      if 1 ≤ es.length ∧ es.length ≤ 11 then some (i.toNat, es) else none
  | _ => none

/-- The body of SET SEAT: seat, mode, fade length, return hold (2), step size (2). -/
structure SeatBody where
  seat : Nat
  mode : Nat
  fadeLength : Nat
  returnHold : Nat
  stepSize : Nat
deriving DecidableEq, Repr

def bodySeat : List Byte → Option SeatBody
  | [s, m, f, hlo, hhi, slo, shi] => some ⟨s.toNat, m.toNat, f.toNat, word16 hlo hhi, word16 slo shi⟩
  | _ => none

/-- The body of SET GAIN: designator (2), target (2), then the ramp step (2) when given. -/
structure SetGainBody where
  output : Nat
  source : Nat
  target : Nat
  step : Option Nat
deriving DecidableEq, Repr

def bodySetGain : List Byte → Option SetGainBody
  | [o, s, tlo, thi] => some ⟨o.toNat, s.toNat, word16 tlo thi, none⟩
  | [o, s, tlo, thi, rlo, rhi] => some ⟨o.toNat, s.toNat, word16 tlo thi, some (word16 rlo rhi)⟩
  | _ => none

/-- The body of LOAD TIMER: timer, load (2), mode, source. -/
structure LoadBody where
  index : Nat
  load : Nat
  mode : Nat
  source : Nat
deriving DecidableEq, Repr

def bodyLoad : List Byte → Option LoadBody
  | [t, lo, hi, m, s] => some ⟨t.toNat, word16 lo hi, m.toNat, s.toNat⟩
  | _ => none

/-- The body of SET CUE: set, cause, cause operand, action, action operand (2), value (2), repeat, notify, chain member
count, then that many members, at most three. -/
structure CueBody where
  set : Nat
  cause : Nat
  causeOperand : Nat
  action : Nat
  first : Nat
  second : Nat
  value : Nat
  rep : Nat
  notify : Nat
  chain : List Nat
deriving DecidableEq, Repr

/-- The body of SET CUE from its bytes: nothing where the length is none that the catalogue allows (R175). -/
def bodyCue : List Byte → Option CueBody
  | set :: cause :: operand :: action :: first :: second :: vlo :: vhi :: rep :: notify :: count :: members =>
    if members.length ≤ 3 ∧ count.toNat = members.length then
      some ⟨set.toNat, cause.toNat, operand.toNat, action.toNat, first.toNat, second.toNat, word16 vlo vhi,
        rep.toNat, notify.toNat, members.map BitVec.toNat⟩
    else none
  | _ => none

/-- The body of CLEAR CLIP: 0 to 5 output numbers. -/
def bodyOutputs (b : List Byte) : Option (List Nat) :=
  if b.length ≤ 5 then some (b.map BitVec.toNat) else none

/-- The body of CLEAR NOTICES and SET NOTICE MASK: 0 to 6 notice codes. -/
def bodyKinds (b : List Byte) : Option (List Nat) :=
  if b.length ≤ 6 then some (b.map BitVec.toNat) else none

/-- Whether a body fits a form of the request with this code; false for a code that is not of the catalogue (R175,
section 11.2). -/
def bodyFits (code : Nat) (b : List Byte) : Bool :=
  match code with
  | 0x01 => (bodyAdmit b).isSome
  | 0x02 => (bodyAmend b).isSome
  | 0x03 => (bodyByte b).isSome
  | 0x04 => (bodyWord b).isSome
  | 0x05 => (bodyByte b).isSome
  | 0x06 => (bodySeat b).isSome
  | 0x07 => (bodyByte b).isSome
  | 0x08 => (bodySetGain b).isSome
  | 0x09 => (bodyPair b).isSome
  | 0x0A => (bodyPair b).isSome
  | 0x0B => (bodyPair b).isSome
  | 0x0C => (bodyPair b).isSome
  | 0x0D => (bodyWord b).isSome
  | 0x0E => (bodyLoad b).isSome
  | 0x0F => (bodyByte b).isSome
  | 0x10 => (bodyByte b).isSome
  | 0x11 => (bodyByte b).isSome
  | 0x12 => (bodyCue b).isSome
  | 0x13 => (bodyByte b).isSome
  | 0x14 => (bodyByte b).isSome
  | 0x15 => (bodyByte b).isSome
  | 0x16 => (bodyByte b).isSome
  | 0x17 => (bodyNone b).isSome
  | 0x18 => (bodyNone b).isSome
  | 0x19 => (bodyNone b).isSome
  | 0x1A => (bodyNone b).isSome
  | 0x1B => (bodyKinds b).isSome
  | 0x1C => (bodyKinds b).isSome
  | 0x1D => (bodyOutputs b).isSome
  | 0x1E => (bodyNone b).isSome
  | 0x1F => (bodyNone b).isSome
  | 0x20 => (bodyNone b).isSome
  | _ => false

/-- Whether a held request passes every framing check of R175. -/
def HeldRequest.wellFramed (h : HeldRequest) : Bool :=
  match h.code?, h.framed with
  | some code, some (_, body) => bodyFits code.toNat body
  | _, _ => false

/-! ## Sets named in a body -/

/-- The kinds that a list of codes names, or nothing where a code is unknown or a kind is named twice (R180, R181). -/
def kinds? (codes : List Nat) : Option (List NoticeKind) :=
  if codes.Nodup then codes.mapM NoticeKind.ofCode else none

/-- The outputs that a list of numbers names, or nothing where one is unknown or named twice (R129). -/
def outputs? (codes : List Nat) : Option (List Output) :=
  if codes.Nodup then codes.mapM Output.ofCode else none

end Sys2Proof.Machine
end

