-- ==== Sys2Proof/Machine/Control.lean ====
section
/-! DEFINITION. The Control Link Interface (chapter 10): SPI transactions, the taking of a held request, the framing
refusal; and the commands of the Notice Unit, IDENTIFY, reset and start-up. -/

namespace Sys2Proof.Machine

open Sys2Proof

/-! ## Taking a request -/

/-- What a request's owner answers at its taking: the part with the request performed, the response's status and body,
and the causes issued. -/
structure Reply where
  st : State
  status : Status := .ok
  body : List Byte := []
  causes : List Cause := []
deriving DecidableEq, Repr

/-- A refused request: nothing changes, and the body is empty (R176). -/
def refuse (s : State) (status : Status) : Reply := { st := s, status }

/-- The part with a response placed: the interface RESPONSE_PENDING, the request buffer emptied (R176). -/
def State.placeResponse (s : State) (r : Response) : State := { s with iface := .responsePending r }

/-- The reply of a request that passed framing: the owner's effects, the response placed at the same instant, and the
request's cause group handled after them (R176, R162). -/
def Reply.answer (p : Reply) (code tag : Byte) : State :=
  (p.st.placeResponse { code, tag, status := p.status, body := p.body }).handleGroup p.causes

/-- The taking of the held request with this code by its owner (R175, R176): refused with BAD_REQUEST where its framing or
its body length is wrong, else performed. Nothing happens where no request with this code is held, or before READY. -/
def State.takeRequest {α : Type} (s : State) (code : Byte) (body? : List Byte → Option α) (owner : State → α → Reply) :
    State :=
  s.whenReady fun s =>
    match s.iface with
    | .executing h =>
      if h.code? = some code then
        match h.framed.bind fun m => (body? m.2).map fun b => (m.1, b) with
        | some (tag, b) => (owner s b).answer code tag
        | none => s.placeResponse h.refusal
      else s
    | _ => s

/-- FRAMING_REFUSAL: the held request is refused with BAD_REQUEST if any framing check of R175 fails. -/
def State.refuseFraming (s : State) : State :=
  s.whenReady fun s =>
    match s.iface with
    | .executing h => if h.wellFramed then s else s.placeResponse h.refusal
    | _ => s

/-! ## Transactions -/

/-- The response that a READ starting now would send, if any (R177). -/
def Interface.response? : Interface → Option Response
  | .responsePending r => some r
  | _ => none

/-- A fall of CS_N: the status byte and what a READ will send are fixed, and READY is judged (R172, R174, R177). A
transaction that falls before READY is ignored whole, in reset as in start-up (R174, R183). -/
def State.beginTransaction (s : State) : State :=
  { s with
    transaction :=
      if s.isReady then
        .taken { status := s.statusByte, sends := s.iface.response?, kind := none, bytes := [], count := 0 }
      else .ignored
    miso := [] }

/-- The byte that MISO sends next in a transaction: the status byte during the first; then in a READ the response message
from its first byte, or a length of 0, and after it 0; in a transaction of any other type 0 (R172, R177). -/
def TakenTransaction.sendsNext (t : TakenTransaction) : Byte :=
  match t.kind with
  | none => t.status
  | some kind =>
    if kind = 0x02 then
      match t.sends with
      | some r => r.bytes.getD t.count 0
      | none => 0
    else 0

/-- The byte that MISO sends next: 0 while RESET_N is low, before READY, and in a transaction that a reset abandoned (R172,
R183). -/
def State.misoByte (s : State) : Byte :=
  match s.transaction with
  | .taken t => if s.isReady then t.sendsNext else 0
  | _ => 0

/-- A byte shifted in on MOSI: the transaction type first, then the bytes after it (R172). -/
def TakenTransaction.shiftIn (t : TakenTransaction) (b : Byte) : TakenTransaction :=
  match t.kind with
  | none => { t with kind := some b }
  | some _ => { t with bytes := (t.bytes ++ [b]).take Config.requestCapacity, count := t.count + 1 }

/-- A byte shifted in on MOSI while a byte is shifted out on MISO; nothing where CS_N is high (R172). -/
def State.shiftByte (s : State) (b : Byte) : State :=
  match s.transaction with
  | .idle => s
  | .ignored => { s with miso := s.miso ++ [s.misoByte] }
  | .taken t => { s with transaction := .taken (t.shiftIn b), miso := s.miso ++ [s.misoByte] }

/-- What a WRITE's end does with the bytes after its type: held when the interface is IDLE, else dropped with BUSY; nothing
for a WRITE with no message byte (R174). -/
def State.acceptWrite (s : State) (bytes : List Byte) (count : Nat) : State :=
  if count = 0 then s
  else
    match s.iface with
    | .idle => { s with iface := .executing { bytes, count }, busy := false }
    | _ => { s with busy := true }

/-- What a READ's end does after `count` bytes behind the status byte: the response is read if it was sent whole, and stays
pending otherwise (R177). -/
def State.finishRead (s : State) (sends : Option Response) (count : Nat) : State :=
  match sends with
  | some r => if r.bytes.length ≤ count then { s with iface := .idle } else s
  | none => s

/-- A rise of CS_N: the part acts on the transaction by its type. A status poll changes nothing, one that ended within its
first byte among them; nor does the end of a transaction that the part ignores (R172). -/
def State.endTransaction (s : State) : State :=
  let ended : State := { s with transaction := .idle }
  match s.transaction with
  | .taken t =>
    ended.whenReady fun s =>
      if t.kind = some 0x01 then s.acceptWrite t.bytes t.count
      else if t.kind = some 0x02 then s.finishRead t.sends t.count
      else s
  | _ => ended

/-- Bytes shifted in on MOSI, and the rise of CS_N after them where they end the transaction (R172). -/
def State.transact (s : State) (shift : Shift) : State :=
  let shifted := shift.mosi.foldl State.shiftByte s
  if shift.ends then shifted.endTransaction else shifted

/-- WRITE_TRANSACTION. -/
def execWriteTransaction (shift : Shift) (s : State) : Host.Outcome State Fault Refusal :=
  .next (s.transact shift)

/-- READ_TRANSACTION. -/
def execReadTransaction (shift : Shift) (s : State) : Host.Outcome State Fault Refusal :=
  .next (s.transact shift)

/-- CS_N_FALL. -/
def execCsNFall (s : State) : Host.Outcome State Fault Refusal := .next s.beginTransaction

/-- FRAMING_REFUSAL. -/
def execFramingRefusal (s : State) : Host.Outcome State Fault Refusal := .next s.refuseFraming

/-! ## Notices -/

/-- The body of READ NOTICES (R180). -/
def State.noticesBody (s : State) : List Byte :=
  [s.notices.byte, s.mask.byte] ++ byte1 s.topNotice ++
    [linkFlagsByte s.linkChanges, seatFlagsByte s.seatChanges] ++ byte1 (flagCode s.cueFault.isSome)

/-- READ NOTICES (R180). -/
def readNotices (s : State) (_ : Unit) : Reply := { st := s, body := s.noticesBody }

/-- SET NOTICE MASK: the mask replaced whole (R180). -/
def setNoticeMask (s : State) (codes : List Nat) : Reply :=
  match kinds? codes with
  | none => refuse s .badValue
  | some kinds =>
    let mask := NoticeFlags.ofFn fun k => kinds.contains k
    { st := { s with mask }, body := [mask.byte] }

/-- The body of CLEAR NOTICES: the flags as they stand before clearing (R181). -/
def State.clearedBody (s : State) : List Byte :=
  [s.notices.byte, linkFlagsByte s.linkChanges, seatFlagsByte s.seatChanges] ++ byte1 (flagCode s.cueFault.isSome)

/-- The named kinds cleared, with what is cleared with each (R181). -/
def State.clearKinds (s : State) (kinds : List NoticeKind) : State :=
  { s with
    notices := s.notices.lower fun k => kinds.contains k
    linkChanges := if kinds.contains .link then Bank.fill 8 false else s.linkChanges
    seatChanges := if kinds.contains .seat then Bank.fill 4 false else s.seatChanges
    cueFault := if kinds.contains .cue then none else s.cueFault }

/-- CLEAR NOTICES (R181). -/
def clearNotices (s : State) (codes : List Nat) : Reply :=
  match kinds? codes with
  | none => refuse s .badValue
  | some kinds => { st := s.clearKinds kinds, body := s.clearedBody }

/-- READ_NOTICES. -/
def execReadNotices (s : State) : Host.Outcome State Fault Refusal := .next (s.takeRequest 0x1A bodyNone readNotices)

/-- CLEAR_NOTICES. -/
def execClearNotices (s : State) : Host.Outcome State Fault Refusal := .next (s.takeRequest 0x1B bodyKinds clearNotices)

/-- SET_NOTICE_MASK. -/
def execSetNoticeMask (s : State) : Host.Outcome State Fault Refusal :=
  .next (s.takeRequest 0x1C bodyKinds setNoticeMask)

/-! ## IDENTIFY -/

/-- IDENTIFY: family code 0x3D, part code 428, revision 1, 8 links, 4 seats (R182). -/
def identify (s : State) (_ : Unit) : Reply :=
  { st := s, body := byte1 0x3D ++ byte2 428 ++ byte1 1 ++ byte1 8 ++ byte1 4 }

/-- IDENTIFY. -/
def execIdentify (s : State) : Host.Outcome State Fault Refusal := .next (s.takeRequest 0x1F bodyNone identify)

/-! ## Reset and start-up -/

/-- What a reset leaves of a transaction: one in progress is abandoned (R172). -/
def Transaction.abandoned : Transaction → Transaction
  | .idle => .idle
  | _ => .ignored

/-- What a reset leaves of a reception: the bytes of a frame being received are discarded, and the port waits for the next
rise of PVALID (R25). -/
def Reception.discarded : Reception → Reception
  | .waiting => .waiting
  | _ => .ignoring

/-- Every block at its reset values, and the given phase. The levels of CS_N and PVALID are the sender's, so a transaction and
a high period in progress go on, abandoned and discarded; what MISO has sent and the waiting commands are no state of the
part's and are kept (R25, R172, R183). -/
def State.resetTo (s : State) (phase : Phase) : State :=
  { State.reset with
    phase, transaction := s.transaction.abandoned, miso := s.miso, reception := s.reception.discarded
    pending := s.pending }

/-- RESET_N_FALL: the part is held in reset (R183). -/
def execResetNFall (s : State) : Host.Outcome State Fault Refusal := .next (s.resetTo .inReset)

/-- RESET_N_RISE: start-up begins (R183). Where RESET_N is high already there is no rise. -/
def execResetNRise (s : State) : Host.Outcome State Fault Refusal :=
  .next (if s.phase = .inReset then { s with phase := .startUp } else s)

/-- The first tick after start-up began: it sets READY and reaches no other block (R183). -/
def State.endStartUp (s : State) : State := if s.phase = .startUp then { s with phase := .ready } else s

/-- START_UP_END: nothing where no start-up is in progress. -/
def execStartUpEnd (s : State) : Host.Outcome State Fault Refusal := .next s.endStartUp

/-- The taking of a RESET request: the part enters reset with every effect of R183, and start-up begins at the same
instant. No response is placed (R184). A RESET whose framing is wrong is refused like any request (R175). -/
def State.takeReset (s : State) : State :=
  s.whenReady fun s =>
    match s.iface with
    | .executing h =>
      if h.code? = some 0x20 then if h.wellFramed then s.resetTo .startUp else s.placeResponse h.refusal else s
    | _ => s

/-- RESET. -/
def execReset (s : State) : Host.Outcome State Fault Refusal := .next s.takeReset

end Sys2Proof.Machine
end

