-- ==== Sys2Proof/Machine/Radio.lean ====
section
/-! DEFINITION. The radio packet port (chapter 2): the receive checks, the acceptance of Audio Up frames, Link Status
frames, the transmit arbiter, and the commands AUDIO_UP, LINK_STATUS and AUDIO_DOWN_COMPLETE. -/

namespace Sys2Proof.Machine

open Sys2Proof

/-! ## Reception -/

/-- A received frame that passed check 1 of R26. -/
inductive RadioFrame where
  /-- An Audio Up frame: handle, MUTE flag, sequence number, sample count, samples (none when MUTE is set). -/
  | audioUp (handle : Nat) (mute : Bool) (seq : Byte) (count : Nat) (samples : List Sample)
  /-- A Link Status frame: handle, and whether its status is UP. -/
  | linkStatus (handle : Nat) (up : Bool)
deriving DecidableEq, Repr

/-- The handle in bits 0 to 11 of the two-byte handle field (R27). -/
def frameHandle (lo hi : Byte) : Nat := word16 lo hi % 4096

/-- The MUTE flag, bit 12 of the handle field (R27). -/
def frameMute (hi : Byte) : Bool := hi.getLsbD 4

/-- Check 1 of R26: the frame that the receive buffer and the byte count hold, or nothing for a format error (R27). -/
def parseFrame (buffer : List Byte) (count : Nat) : Option RadioFrame :=
  match buffer with
  | kind :: lo :: hi :: rest =>
    if kind = 0x01 then
      match rest with
      | seq :: samples :: data =>
        let declared := if frameMute hi then 5 else 5 + 2 * samples.toNat
        if count = declared then
          some (.audioUp (frameHandle lo hi) (frameMute hi) seq samples.toNat (bytesSamples data))
        else none
      | _ => none
    else if kind = 0x02 then
      match rest with
      | [status] =>
        if count = 4 ∧ status = 0x00 then some (.linkStatus (frameHandle lo hi) false)
        else if count = 4 ∧ status = 0x01 then some (.linkStatus (frameHandle lo hi) true)
        else none
      | _ => none
    else none
  | _ => none

/-- The block an accepted frame writes: its samples, or block-length zeros for a MUTE frame (R38). -/
def frameBlock (mute : Bool) (block : Nat) (samples : List Sample) : List Sample :=
  if mute then List.replicate block 0 else samples

/-- Concealment block `j`: the last received block with every sample shifted right by `j`, or zeros where there is no
last received block (R34). -/
def LinkRecord.concealment (r : LinkRecord) (j : Nat) : List Sample :=
  match r.lastBlock with
  | some block => block.map fun x => BitVec.ofInt 16 (x.toInt / 2 ^ j)
  | none => List.replicate r.config.blockLength 0

/-- What every accepted frame does beside its queue write: the expected sequence number, the supervision reload, blocks
accepted, and the last received block for a frame with MUTE clear (R31, R33, R35, R36). -/
def LinkRecord.noteFrame (r : LinkRecord) (mute : Bool) (seq : Byte) (samples : List Sample) : LinkRecord :=
  { r with
    expected := some (seq + 1)
    remaining := r.config.supervision
    lastBlock := if mute then r.lastBlock else some samples
    counters := { r.counters with accepted := satAdd r.counters.accepted 1 } }

/-- A first frame: a STANDBY or LOST record becomes PRIMING (R31). -/
def LinkRecord.firstFrame (r : LinkRecord) (mute : Bool) (seq : Byte) (samples : List Sample) : LinkStep :=
  let block := frameBlock mute r.config.blockLength samples
  { record := ({ r with state := .priming }.writeJitter block).noteFrame mute seq samples
    changed := true
    lossy := r.jitterOverflows block.length }

/-- A frame `n` ahead of the expected one, in order for `n = 0` and a gap of `n` for 1 to 15: `n` concealment blocks and
then its own block, as one write (R33, R34, R35). -/
def LinkRecord.orderedFrame (r : LinkRecord) (n : Nat) (mute : Bool) (seq : Byte) (samples : List Sample) : LinkStep :=
  let fill := (List.range n).flatMap fun j => r.concealment (j + 1)
  let written := fill ++ frameBlock mute r.config.blockLength samples
  let noted := (r.writeJitter written).noteFrame mute seq samples
  { record := { noted with counters := { noted.counters with concealed := satAdd noted.counters.concealed n } }
    lossy := r.jitterOverflows written.length }

/-- A resync frame (R36). -/
def LinkRecord.resyncFrame (r : LinkRecord) (i : Fin 8) (mute : Bool) (seq : Byte) (samples : List Sample) : LinkStep :=
  let flushed : LinkRecord :=
    if r.state = .live then { r.hush with state := .priming, jitter := [], downlink := [] }
    else { r with jitter := [] }
  { record := (flushed.writeJitter (frameBlock mute r.config.blockLength samples)).noteFrame mute seq samples
    changed := r.state == .live
    lossy := true
    causes := r.departure i }

/-- A stale frame: discarded and counted (R37). -/
def LinkRecord.staleFrame (r : LinkRecord) : LinkStep where
  record := { r with counters := { r.counters with stale := satAdd r.counters.stale 1 } }

/-- An Audio Up frame that passed the four checks, judged against its record: a first frame for STANDBY and LOST, else
classified by its distance from the expected sequence number (R31, R32). -/
def LinkRecord.takeFrame (r : LinkRecord) (i : Fin 8) (mute : Bool) (seq : Byte) (samples : List Sample) : LinkStep :=
  match r.state with
  | .standby => r.firstFrame mute seq samples
  | .lost => r.firstFrame mute seq samples
  | _ =>
    let delta := (seq - r.expected.getD seq).toNat
    if delta ≤ 15 then r.orderedFrame delta mute seq samples
    else if delta ≤ 127 then r.resyncFrame i mute seq samples
    else r.staleFrame

/-- The part with one of the port's counters changed. -/
def State.countRadio (s : State) (f : RadioCounters → RadioCounters) : State := { s with radio := f s.radio }

/-- One more format error. -/
def RadioCounters.formatError (c : RadioCounters) : RadioCounters :=
  { c with formatErrors := satAdd c.formatErrors 1 }

/-- A matched Audio Up frame: checks 3 and 4 of R26, then acceptance (R29, R30). -/
def State.matchedAudio (s : State) (i : Fin 8) (r : LinkRecord) (mute : Bool) (seq : Byte) (count : Nat)
    (samples : List Sample) : Event :=
  if s.engine = .stopped then
    .start (s.countRadio fun c => { c with idleDiscards := satAdd c.idleDiscards 1 })
  else if count ≠ r.config.blockLength then .start (s.countRadio RadioCounters.formatError)
  else (Event.start s).stepLink i (r.takeFrame i mute seq samples)

/-- A matched Link Status frame: DOWN for a PRIMING or LIVE record moves it to LOST, any other is counted as
status-only (R40, R41). -/
def State.matchedStatus (s : State) (i : Fin 8) (r : LinkRecord) (up : Bool) : Event :=
  if up = false ∧ (r.state = .priming ∨ r.state = .live) then (Event.start s).stepLink i (r.lose i)
  else .start (s.countRadio fun c => { c with statusOnly := satAdd c.statusOnly 1 })

/-- A frame that matches no record (R28). -/
def State.unmatchedFrame (s : State) : Event :=
  .start (s.countRadio fun c => { c with unmatched := satAdd c.unmatched 1 })

/-- The arrival of a frame: the checks of R26 in order, and what they lead to. -/
def State.frameArrives (s : State) (buffer : List Byte) (count : Nat) : Event :=
  match parseFrame buffer count with
  | none => .start (s.countRadio RadioCounters.formatError)
  | some (.audioUp handle mute seq count samples) =>
    match s.recordOf handle with
    | none => s.unmatchedFrame
    | some (i, r) => s.matchedAudio i r mute seq count samples
  | some (.linkStatus handle up) =>
    match s.recordOf handle with
    | none => s.unmatchedFrame
    | some (i, r) => s.matchedStatus i r up

/-- Bytes clocked in with PVALID high, which rises before them where it was low: a frame is being received from a rise with
the part READY on, and no other. The receive buffer stores the first 515 bytes, and the byte count counts them all (R25). -/
def State.clockIn (s : State) (bytes : List Byte) : State :=
  { s with
    reception :=
      match s.reception with
      | .waiting => if s.isReady then .receiving (bytes.take Config.receiveCapacity) bytes.length else .ignoring
      | .ignoring => .ignoring
      | .receiving buffer count =>
        .receiving ((buffer ++ bytes).take Config.receiveCapacity) (count + bytes.length) }

/-- A fall of PVALID: the arrival of the frame being received, with its cause group; nothing for a high period without a
byte, and for one that the port ignores (R25). -/
def State.pvalidFalls (s : State) : State :=
  let fallen : State := { s with reception := .waiting }
  match s.reception with
  | .receiving buffer count =>
    fallen.whenReady fun s => if count = 0 then s else (s.frameArrives buffer count).finish
  | _ => fallen

/-- Bytes clocked in with PVALID high, and the fall of PVALID after them where they end the frame (R25). -/
def State.receive (s : State) (bytes : List Byte) (ends : Bool) : State :=
  if ends then (s.clockIn bytes).pvalidFalls else s.clockIn bytes

/-! ## Transmission -/

/-- Whether a slot's link is ready for transmission: LIVE, with a block in its downlink queue (R42). -/
def slotReady (o : Option LinkRecord) : Bool :=
  o.any fun r => r.state == .live && decide (r.config.blockLength ≤ r.downlink.length)

/-- The indices in the order the arbiter tries them, from the pointer plus 1, modulo 8 (R43). -/
def arbiterOrder (pointer : Fin 8) : List (Fin 8) := (List.finRange 8).map fun k => pointer + 1 + k

/-- A link served: a block leaves its downlink queue and becomes an Audio Down frame under transmission, its downlink
sequence number goes on by 1, and the pointer is set to it (R43, R44). -/
def State.serve (s : State) (i : Fin 8) (r : LinkRecord) : State :=
  { s with
    arbiter := i
    sending := some
      { link := i, handle := r.config.handle, seq := r.downSeq
        samples := r.downlink.take r.config.blockLength }
    slots := s.slots.set i (some
      { r with downlink := r.downlink.drop r.config.blockLength, downSeq := r.downSeq + 1 }) }

/-- The arbiter's choice: while the transmit side is idle it serves the first ready link, if any (R43). -/
def State.arbitrate (s : State) : State :=
  if s.sending.isSome then s
  else
    match (arbiterOrder s.arbiter).find? fun i => slotReady (s.slots.get i) with
    | none => s
    | some i =>
      match s.slots.get i with
      | none => s
      | some r => s.serve i r

/-- The end of a transmission: frames sent is counted, the transmit side is idle, and the arbiter chooses (R44). -/
def State.downComplete (s : State) : State :=
  match s.sending with
  | none => s
  | some _ =>
    { s with
      sending := none
      radio := { s.radio with framesSent := satAdd s.radio.framesSent 1 } }.arbitrate

/-! ## The commands -/

/-- AUDIO_UP. -/
def execAudioUp (bytes : List Byte) (ends : Bool) (s : State) : Host.Outcome State Fault Refusal :=
  .next (s.receive bytes ends)

/-- LINK_STATUS. -/
def execLinkStatus (bytes : List Byte) (ends : Bool) (s : State) : Host.Outcome State Fault Refusal :=
  .next (s.receive bytes ends)

/-- AUDIO_DOWN_COMPLETE: nothing where no frame is under transmission. -/
def execAudioDownComplete (s : State) : Host.Outcome State Fault Refusal := .next (s.whenReady State.downComplete)

end Sys2Proof.Machine
end

