-- ==== Sys2Proof/Machine/Resample.lean ====
section
/-! DEFINITION. The arithmetic of the two resamplers and of the drift loop (chapter 4), on one link record. -/

namespace Sys2Proof.Machine

open Sys2Proof

/-- A value narrowed to a sample. Every value the model narrows lies in the sample range (R66, R79, R94, R127). -/
def toSample (v : Int) : Sample := BitVec.ofInt 16 v

/-- Linear interpolation between two samples by a 15-bit fraction, rounded half up (R66, R79). -/
def interpolate (x0 x1 : Sample) (f15 : Nat) : Sample :=
  toSample (x0.toInt + ((x1.toInt - x0.toInt) * f15 + 16384) / 32768)

/-- The sample of a list at an index; 0 beyond the list, where no rule reads. -/
def sampleAt (xs : List Sample) (i : Nat) : Sample := xs.getD i 0

/-- The sample at a position of a list in units of 2^−24 of a sample: the two bracketing samples weighted by the
position's fraction reduced to 15 bits (R65, R66). -/
def sampleAtPosition (xs : List Sample) (p : Nat) : Sample :=
  interpolate (sampleAt xs (p / Config.one)) (sampleAt xs (p / Config.one + 1)) (p % Config.one / 512)

/-! ## Uplink (section 4.2) -/

/-- The uplink step of a pass with drift word `d` (R65). -/
def uplinkStep (d : Int) : Nat := ((Config.one : Int) + d).toNat

/-- Position `k` of the pass (R65). -/
def uplinkPosition (f0 : Nat) (d : Int) (k : Nat) : Nat := f0 + k * uplinkStep d

/-- The needed count of a pass (R67). -/
def neededCount (f0 : Nat) (d : Int) : Nat := uplinkPosition f0 d 63 / Config.one + 2

/-- The consumed count of a full supply (R68). -/
def consumedCount (f0 : Nat) (d : Int) : Nat := uplinkPosition f0 d 64 / Config.one

/-- The phase fraction a full supply carries (R68). -/
def carriedPhase (f0 : Nat) (d : Int) : Nat := uplinkPosition f0 d 64 % Config.one

/-- The 64 resampled outputs of a link for a pass, from its queue, f0 and d as they stand at the pass start: each output
whose upper index lies in the queue is interpolated, every other is 0. On a full supply all 64 are interpolated (R66,
R67); on an underrun they are those of R69. -/
def LinkRecord.outputs (r : LinkRecord) : List Sample :=
  (List.range Config.passSamples).map fun k =>
    let p := uplinkPosition r.phase r.drift k
    if p / Config.one + 1 < r.jitter.length then sampleAtPosition r.jitter p else 0

/-- Whether the supply of a pass start is full (R52). -/
def LinkRecord.suppliesFully (r : LinkRecord) : Bool :=
  decide (neededCount r.phase r.drift ≤ r.jitter.length)

/-! ## Drift loop (section 4.3) -/

/-- An integer held to an interval. -/
def clampInt (lo hi v : Int) : Int := max lo (min hi v)

/-- The adjustment of a drift update, held to ±512 (R72). -/
def driftAdjust (sum : Nat) (startLevel loopShift : Nat) : Int :=
  clampInt (-Config.driftStep) Config.driftStep
    ((((sum / Config.driftWindow : Nat) : Int) - startLevel) * 2 ^ (8 - loopShift))

/-- A drift update: d moved by the adjustment and held to ±16,384, a hit of the limit counted (R73); the window reset
(R71). `sum` is the sum formed at the 32nd addition. -/
def LinkRecord.driftUpdate (r : LinkRecord) (sum : Nat) : LinkRecord :=
  let moved := r.drift + driftAdjust sum r.config.startLevel r.config.loopShift
  let hit := decide (moved < -Config.driftMax ∨ Config.driftMax < moved)
  { r with
    drift := clampInt (-Config.driftMax) Config.driftMax moved
    windowSum := 0
    windowCount := 0
    counters := { r.counters with driftLimits := satAdd r.counters.driftLimits (if hit then 1 else 0) } }

/-- The drift window of a pass start whose recorded fill is `fill`: the fill added, and a drift update made at the 32nd
count (R71, R74). -/
def LinkRecord.windowed (r : LinkRecord) (fill : Nat) : LinkRecord :=
  if r.windowCount + 1 ≥ Config.driftWindow then r.driftUpdate (r.windowSum + fill)
  else { r with windowSum := r.windowSum + fill, windowCount := r.windowCount + 1 }

/-! ## Downlink (section 4.4) -/

/-- The downlink step of a pass with drift word `d` (R79). -/
def downlinkStep (d : Int) : Nat := ((Config.one : Int) - d).toNat

/-- The first position that a completion does not produce any more: 64 samples on (R79). -/
@[simp] abbrev downlinkLimit : Nat := Config.passSamples * Config.one

/-- How many outputs a completion produces: the number of positions below 64 × 2^24 (R80). -/
def downlinkCount (q : Nat) (d : Int) : Nat := (downlinkLimit - q + (downlinkStep d - 1)) / downlinkStep d

/-- The downlink outputs of a link at a completion, from its held sample, its position Q, the pass drift and the 64
samples of its seat's DOWN row (R78, R79). -/
def downlinkOutputs (held : Sample) (row : List Sample) (q : Nat) (d : Int) : List Sample :=
  (List.range (downlinkCount q d)).map fun k => sampleAtPosition (held :: row) (q + k * downlinkStep d)

/-- The position Q a completion carries (R80). -/
def carriedPosition (q : Nat) (d : Int) : Nat := q + downlinkCount q d * downlinkStep d - downlinkLimit

end Sys2Proof.Machine
end

