-- ==== Sys2Proof/Machine/MixPass.lean ====
section
/-! DEFINITION. The mix pass (chapter 7): pass start, snapshot, the five output rows, completion, and the command
PASS_COMPLETION. -/

namespace Sys2Proof.Machine

open Sys2Proof

/-! ## Pass start: the links -/

/-- The priming test: a PRIMING record whose fill has reached its start level becomes LIVE (R50). -/
def LinkRecord.primingTest (r : LinkRecord) (i : Fin 8) : LinkStep :=
  if r.state = .priming ∧ r.config.startLevel ≤ r.jitter.length then
    { record := r.enterLive, changed := true, causes := [.linkLive i] }
  else { record := r }

/-- Whether the LOW_FILL test of a pass start finds the fill below the low mark (R122). -/
def LinkRecord.isLow (r : LinkRecord) : Bool := decide (r.jitter.length < r.config.lowMark)

/-- The supply of a pass start: a full one removes the consumed count and carries f0; an underrun empties the queue, sets
f0 to 0 and counts (R53, R54). -/
def LinkRecord.supplied (r : LinkRecord) : LinkRecord :=
  if r.suppliesFully then
    { r with
      jitter := r.jitter.drop (consumedCount r.phase r.drift)
      phase := carriedPhase r.phase r.drift
      starve := 0 }
  else
    { r with
      jitter := []
      phase := 0
      starve := r.starve + 1
      counters := { r.counters with underruns := satAdd r.counters.underruns 1 } }

/-- Whether the supply of a pass start re-primes the link: an underrun that brings the starve count to the starve limit
(R55). -/
def LinkRecord.starves (r : LinkRecord) : Bool :=
  !r.suppliesFully && decide (r.config.starveLimit ≤ r.starve + 1)

/-- Re-priming by starvation (R55). -/
def LinkRecord.reprimed (r : LinkRecord) : LinkRecord :=
  { r.hush with
    state := .priming, downlink := []
    counters := { r.counters with reprimes := satAdd r.counters.reprimes 1 } }

/-- A LIVE link's work at a pass start, in the order of R121: LOW_FILL, the supply, the starve test, the drift window with
its update at the 32nd count. -/
def LinkRecord.passStart (r : LinkRecord) (i : Fin 8) : LinkStep :=
  let marked : LinkRecord := { r with belowLow := r.isLow }
  let supplied := marked.supplied
  let starved := if marked.starves then supplied.reprimed else supplied
  { record := starved.windowed r.jitter.length
    changed := marked.starves
    causes :=
      (if r.isLow && !r.belowLow then [.lowFill i] else []) ++ (if marked.starves then r.departure i else []) }

/-- What a pass start does to the record in a slot once the priming test is done: the work of a LIVE link, nothing to
any other (R121). -/
def LinkRecord.supplyStage (r : LinkRecord) (i : Fin 8) : LinkStep :=
  if r.state = .live then r.passStart i else { record := r }

/-- What the snapshot holds of a link of the LIVE set, from its record before the supply (R64, R124). -/
def LinkRecord.forPass (r : LinkRecord) : PassLink where
  seat := r.config.seat
  side := r.config.side
  drift := r.drift
  outputs := r.outputs

/-- The LIVE set with its links' samples, from the slots once the priming test is done (R121, R124). -/
def passLinks (slots : Bank 8 (Option LinkRecord)) : Bank 8 (Option PassLink) :=
  slots.map fun o => o.bind fun r => if r.state = .live then some r.forPass else none

/-! ## Pass start: seats, far end, snapshot -/

/-- Whether a side of a seat is live in a pass: the record holding it is in the LIVE set (R87). -/
def liveIn (links : Bank 8 (Option PassLink)) (seat : Fin 4) (side : Side) : Bool :=
  links.any fun _ o => o.any fun l => l.seat == seat && l.side == side

/-- Selection for the four seats (R87 to R91): the seat records, the change flags and SEAT. -/
def Event.selectVoices (e : Event) (links : Bank 8 (Option PassLink)) : Event :=
  e.onState fun s =>
    { s with
      seats := s.seats.mapIdx fun i r => r.selected (liveIn links i)
      seatChanges := s.seatChanges.mapIdx fun i b => b || (s.seats.get i).switches (liveIn links i)
      notices := { s.notices with
        seat := s.notices.seat || s.seats.any fun i r => r.switches (liveIn links i) } }

/-- The far-end block of a pass: in CALL the oldest samples of the far-end FIFO, made up to 64 with zeros; else 64 zeros
(R123). -/
def State.farEndBlock (s : State) : List Sample :=
  if s.engine = .call then
    s.pcm.farEnd.take Config.passSamples ++ List.replicate (Config.passSamples - s.pcm.farEnd.length) 0
  else List.replicate Config.passSamples 0

/-- The far-end take: in CALL the block leaves the FIFO and a shortfall is counted as slips; else nothing (R123). -/
def State.takeFarEnd (s : State) : State :=
  if s.engine = .call then
    { s with
      pcm := { s.pcm with
        farEnd := s.pcm.farEnd.drop Config.passSamples
        farEndSlips := satAdd s.pcm.farEndSlips (Config.passSamples - s.pcm.farEnd.length) } }
  else s

/-- What the snapshot holds of a seat (R124). -/
def State.passSeat (s : State) (i : Fin 4) : PassSeat where
  voice := (s.seats.get i).voice
  crossfade := (s.seats.get i).crossfade
  left := holder s.slots i .left
  right := holder s.slots i .right

/-- The snapshot, fixed at the end of a pass start, from the LIVE set and from the part before the far-end take (R124,
R125). -/
def State.snapshot (s : State) (links : Bank 8 (Option PassLink)) : Snapshot where
  engine := s.engine
  links := links
  seats := Bank.ofFn s.passSeat
  farEnd := s.farEndBlock
  uplinkGains := Bank.ofFn fun t => s.gains.effective .uplink (.voice t)
  farGains := Bank.ofFn fun d => s.gains.effective (.down d) .far
  voiceGains := Bank.ofFn fun d => Bank.ofFn fun t => s.gains.effective (.down d) (.voice t)

/-- The pass start, whole at the instant of the boundary, in the stages of R121. -/
def Event.startPass (e : Event) : Event :=
  let primed := e.stepLinks fun i r => r.primingTest i
  let links := passLinks primed.st.slots
  let selected := (primed.stepLinks fun i r => r.supplyStage i).selectVoices links
  selected.onState fun s => { s.takeFarEnd with pass := some (s.snapshot links) }

/-! ## The five rows, from the snapshot alone -/

/-- The index of the link on a side of a seat in the pass. -/
def PassSeat.link (p : PassSeat) : Side → Option (Fin 8)
  | .left => p.left
  | .right => p.right

/-- Sample `m` of a side of a seat: the resampled output of the link holding it, or 0 when the side is not live in the
pass (R94). -/
def Snapshot.sideSample (n : Snapshot) (seat : Fin 4) (side : Side) (m : Nat) : Int :=
  match ((n.seats.get seat).link side).bind n.links.get with
  | some l => (sampleAt l.outputs m).toInt
  | none => 0

/-- The weighted sum of a crossfade at position `k` of `n` (R94). -/
def crossfadeValue (a b : Int) (k n : Nat) : Int := (a * ((n : Int) - k) + b * k + ((n / 2 : Nat) : Int)) / n

/-- Voice sample `m` of a seat (R94). -/
def Snapshot.voiceSample (n : Snapshot) (seat : Fin 4) (m : Nat) : Int :=
  match (n.seats.get seat).voice with
  | none => 0
  | some side =>
    match (n.seats.get seat).crossfade with
    | none => n.sideSample seat side m
    | some x => crossfadeValue (n.sideSample seat x.old m) (n.sideSample seat side m) x.k x.n

/-- Far-end sample `m` of the pass. -/
def Snapshot.farSample (n : Snapshot) (m : Nat) : Int := (sampleAt n.farEnd m).toInt

/-- The four seats' terms of a sum. -/
def Snapshot.voiceTerms (n : Snapshot) (eff : Bank 4 Nat) (m : Nat) : Int :=
  ((List.finRange 4).map fun t => (eff.get t : Int) * n.voiceSample t m).sum

/-- The accumulated sum of an output at position `m`, exact (R126). -/
def Snapshot.acc (n : Snapshot) (o : Output) (m : Nat) : Int :=
  match o with
  | .uplink => n.voiceTerms n.uplinkGains m
  | .down d => (n.farGains.get d : Int) * n.farSample m + n.voiceTerms (n.voiceGains.get d) m

/-- A sum reduced by rounding half up, before saturation (R127). -/
def reduced (acc : Int) : Int := (acc + 8192) / 16384

/-- An output sample: the reduced sum, saturated (R127). -/
def saturated (acc : Int) : Sample := toSample (max (-32768) (min 32767 (reduced acc)))

/-- Whether the saturation of R127 changes a reduced sum. -/
def isSaturated (acc : Int) : Bool := decide (reduced acc < -32768 ∨ 32767 < reduced acc)

/-- The 64 output samples of a row, position 0 first (R127). -/
def Snapshot.row (n : Snapshot) (o : Output) : List Sample :=
  (List.range Config.passSamples).map fun m => saturated (n.acc o m)

/-- Whether the pass is a clip pass for an output (R128). -/
def Snapshot.clips (n : Snapshot) (o : Output) : Bool :=
  (List.range Config.passSamples).any fun m => isSaturated (n.acc o m)

/-! ## Completion -/

/-- The uplink disposal: appended to the uplink FIFO in CALL, the oldest samples over 128 discarded and counted; else
discarded (R131). -/
def State.disposeUplink (s : State) (row : List Sample) : State :=
  if s.engine = .call then
    let all := s.pcm.uplink ++ row
    let excess := all.length - Config.fifoCapacity
    { s with pcm := { s.pcm with uplink := all.drop excess, uplinkSlips := satAdd s.pcm.uplinkSlips excess } }
  else s

/-- The clip judgement of one output (R128). -/
def ClipState.judged (c : ClipState) (clips : Bool) : ClipState :=
  if clips then { flag := true, count := satAdd c.count 1 } else c

/-- The outputs whose clip flag a pass sets from clear (R128). -/
def State.newClips (s : State) (n : Snapshot) : List Output :=
  Output.all.filter fun o => n.clips o && !(s.clipOf o).flag

/-- The clip stage of a completion: flags, counts, the CLIP notice and the CLIP causes (R128). -/
def Event.judgeClips (e : Event) (n : Snapshot) : Event :=
  let fresh := e.st.newClips n
  { st := { (e.st.mapClips fun o c => c.judged (n.clips o)) with
      notices := { e.st.notices with clip := e.st.notices.clip || !fresh.isEmpty } }
    causes := e.causes ++ fresh.map .clip }

/-- The level of a pass: the mean absolute value of the link's 64 outputs (R95). -/
def level (outputs : List Sample) : Nat := (outputs.map fun y => y.toInt.natAbs).sum / Config.passSamples

/-- The activity update of a completion, at a given level (R95 to R97). -/
def LinkRecord.judgeActivity (r : LinkRecord) (lvl : Nat) : LinkRecord :=
  match r.activity with
  | .quiet =>
    if r.config.talkOn ≤ lvl then
      if r.talkRun = 0 then { r with lastLevel := lvl, talkRun := 1 }
      else { r with lastLevel := lvl, activity := .talking, talkRun := 0, hangCount := 0 }
    else { r with lastLevel := lvl, talkRun := 0 }
  | .talking =>
    if r.config.talkOff ≤ lvl then { r with lastLevel := lvl, hangCount := 0 }
    else if r.hangCount < r.config.hang then { r with lastLevel := lvl, hangCount := r.hangCount + 1 }
    else { r with lastLevel := lvl, activity := .quiet, hangCount := 0 }

/-- The cause of a change of activity, if any (R96, R97). -/
def activityCauses (before after : Activity) (i : Fin 8) : List Cause :=
  match before, after with
  | .quiet, .talking => [.talkStart i]
  | .talking, .quiet => [.talkEnd i]
  | _, _ => []

/-- The downlink stage for one link: its resampler over its seat's row, by its pass drift, Q and u_prev (R78 to R81,
R132). -/
def LinkRecord.resampleDown (r : LinkRecord) (drift : Int) (row : List Sample) : LinkRecord :=
  { r.writeDownlink (downlinkOutputs r.heldSample row r.downPosition drift) with
    downPosition := carriedPosition r.downPosition drift
    heldSample := sampleAt row (Config.passSamples - 1) }

/-- What a completion does to a record: the activity and downlink stages for a link that is LIVE at the completion and in
the pass's LIVE set, nothing to any other (R95, R132). -/
def LinkRecord.complete (r : LinkRecord) (i : Fin 8) (n : Snapshot) : LinkStep :=
  match n.links.get i with
  | none => { record := r }
  | some l =>
    if r.state = .live then
      let judged := r.judgeActivity (level l.outputs)
      { record := judged.resampleDown l.drift (n.row (.down l.seat))
        lossy := r.downlinkOverflows (downlinkCount r.downPosition l.drift)
        causes := activityCauses r.activity judged.activity i }
    else { record := r }

/-- The ramps and the crossfades of a completion (R109, R93). -/
def State.rampAndAdvance (s : State) : State :=
  { s with gains := s.gains.ramp, seats := s.seats.map SeatRecord.advance }

/-- The completion of a pass with this snapshot, all at one instant, and the arbiter's choice at it (R130, R43). -/
def Event.complete (e : Event) (n : Snapshot) : Event :=
  let uplinked := e.onState fun s => { s.disposeUplink (n.row .uplink) with pass := none }
  let clipped := uplinked.judgeClips n
  let linked := clipped.stepLinks fun i r => r.complete i n
  linked.onState fun s => s.rampAndAdvance.arbitrate

/-- The completion of the pass in flight, if there is one, as an event of its own with its cause group (R130, R162). -/
def State.completePass (s : State) : State :=
  match s.pass with
  | none => s
  | some n => ((Event.start s).complete n).finish

/-- A pass boundary that reaches the engine: a pass still in flight is completed at that instant, as an event of its
own, and then the new pass starts (R119). -/
def Event.boundary (e : Event) : Event := (e.onState State.completePass).startPass

/-- PASS_COMPLETION: nothing where no pass is in flight. -/
def execPassCompletion (s : State) : Host.Outcome State Fault Refusal := .next (s.whenReady State.completePass)

end Sys2Proof.Machine
end

