-- ==== Sys2Proof/Machine/Calls.lean ====
section
/-! DEFINITION. The call-level events, and the requests CALL START, CALL END, CALL CLEAR, CLEAR CLIP and READ PORT
COUNTERS (chapters 7 and 8). -/

namespace Sys2Proof.Machine

open Sys2Proof

/-! ## The end of a call -/

/-- The PCM port at a call end: both FIFOs emptied, the uplink side WAITING, the slips and the lock state kept (R148). -/
def PcmPort.endCall (p : PcmPort) : PcmPort := { p with farEnd := [], uplink := [], side := .waiting }

/-- What CALL END, the automatic call end and CALL CLEAR do to the engine, the pass in flight, the PCM port, the seats
and the gains (R148, R136, R100, R118). -/
def State.stopEngine (s : State) : State :=
  { s with
    engine := .stopped
    pass := none
    ticks := 0
    holdover := 0
    pcm := s.pcm.endCall
    seats := s.seats.map SeatRecord.endCall
    gains := s.gains.endCall }

/-- The notices of a call end: CLOCK, and SEAT with the change flag of each seat whose voice was not NONE (R100, R150). -/
def State.noteCallEnd (s : State) : State :=
  { s with
    seatChanges := s.seatChanges.mapIdx fun i b => b || (s.seats.get i).voice.isSome
    notices := { s.notices with
      clock := true
      seat := s.notices.seat || s.seats.any fun _ r => r.voice.isSome } }

/-- CALL END without its response, which is the automatic call end (R147, R148, R22). -/
def Event.endCall (e : Event) : Event :=
  (e.stepLinks fun i r => r.endCall i).onState fun s => s.noteCallEnd.stopEngine

/-! ## CALL START, CALL END, CALL CLEAR -/

/-- CALL START (R144). -/
def callStart (s : State) (_ : Unit) : Reply :=
  if s.engine = .stopped then
    let entered : EngineState := if s.pcm.lock = .locked then .call else .holdover
    { st := { s with
        engine := entered
        ticks := 0
        holdover := 0
        pcm := { s.pcm.endCall with b := 0 }
        notices := s.notices.raise .clock }
      body := byte1 entered.code
      causes := if entered = .holdover then [.clockLost] else [] }
  else refuse s .wrongState

/-- CALL END (R148). -/
def callEnd (s : State) (_ : Unit) : Reply :=
  if s.engine = .stopped then refuse s .wrongState
  else
    let e := (Event.start s).endCall
    { st := e.st, causes := e.causes }

/-- What CALL CLEAR does: all of a call end, and the further clearing of R149. Every record is as newly admitted with its
configuration (R23). It issues no cause. -/
def State.clearCall (s : State) : State :=
  { s.stopEngine with
    slots := s.slots.map fun o => o.map fun r => LinkRecord.admitted r.config
    uplinkClip := ⟨false, 0⟩
    downClip := Bank.fill 4 ⟨false, 0⟩
    radio := ⟨0, 0, 0, 0, 0⟩
    pcm := { s.pcm.endCall with farEndSlips := 0, uplinkSlips := 0 }
    timers := s.timers.map Timer.stopped
    cues := s.cues.map fun c => { c with enabled := false, fireCount := 0 }
    cueFault := none
    linkChanges := Bank.fill 8 false
    seatChanges := Bank.fill 4 false
    notices := { NoticeFlags.clear with clock := s.engine != .stopped } }

/-- CALL CLEAR (R149). -/
def callClear (s : State) (_ : Unit) : Reply := { st := s.clearCall }

/-- CALL_START. -/
def execCallStart (s : State) : Host.Outcome State Fault Refusal := .next (s.takeRequest 0x17 bodyNone callStart)

/-- CALL_END. -/
def execCallEnd (s : State) : Host.Outcome State Fault Refusal := .next (s.takeRequest 0x18 bodyNone callEnd)

/-- CALL_CLEAR. -/
def execCallClear (s : State) : Host.Outcome State Fault Refusal := .next (s.takeRequest 0x19 bodyNone callClear)

/-! ## CLEAR CLIP and READ PORT COUNTERS -/

/-- The CLEAR CLIP response body: clip flag and clip count (2) of UPLINK, DOWN0 to DOWN3 in turn (section 11.2). -/
def State.clipBody (s : State) : List Byte :=
  Output.all.flatMap fun o => byte1 (flagCode (s.clipOf o).flag) ++ byte2 (s.clipOf o).count

/-- CLEAR CLIP: the flags of the named outputs cleared, the counts and the CLIP notice kept (R129). -/
def clearClip (s : State) (codes : List Nat) : Reply :=
  match outputs? codes with
  | none => refuse s .badValue
  | some os =>
    { st := s.mapClips fun o c => { c with flag := c.flag && !os.contains o }, body := s.clipBody }

/-- The READ PORT COUNTERS response body (section 11.2). -/
def State.portBody (s : State) : List Byte :=
  byte2 s.radio.formatErrors ++ byte2 s.radio.unmatched ++ byte2 s.radio.idleDiscards ++ byte2 s.radio.statusOnly ++
  byte2 s.radio.framesSent ++ byte2 s.pcm.farEndSlips ++ byte2 s.pcm.uplinkSlips ++ byte1 s.pcm.lock.code ++
  byte1 s.engine.code ++ byte2 s.holdover

/-- READ PORT COUNTERS (R46, R153). -/
def readPortCounters (s : State) (_ : Unit) : Reply := { st := s, body := s.portBody }

/-- CLEAR_CLIP. -/
def execClearClip (s : State) : Host.Outcome State Fault Refusal := .next (s.takeRequest 0x1D bodyOutputs clearClip)

/-- READ_PORT_COUNTERS. -/
def execReadPortCounters (s : State) : Host.Outcome State Fault Refusal :=
  .next (s.takeRequest 0x1E bodyNone readPortCounters)

end Sys2Proof.Machine
end

