-- ==== Sys2Proof/Machine/Clock.lean ====
section
/-! DEFINITION. The Time Base tick and the frame sync, with everything they bring about, and the rows of the table that
name a tick or a frame sync by what it brings about (chapters 1, 8 and 9). -/

namespace Sys2Proof.Machine

open Sys2Proof

/-! ## The tick -/

/-- What a tick does to a link record: a PRIMING or LIVE record's supervision remaining goes down by 1 if it is above 0, and
the record enters LOST when that brings it to 0 (R20). -/
def LinkRecord.supervise (r : LinkRecord) (i : Fin 8) : LinkStep :=
  if (r.state = .priming ∨ r.state = .live) ∧ 0 < r.remaining then
    if r.remaining = 1 then r.lose i else { record := { r with remaining := r.remaining - 1 } }
  else { record := r }

/-- The timers at a tick, with their TIMER causes (R155, R156). -/
def Event.tickTimers (e : Event) : Event where
  st := { e.st with timers := Sys2Proof.Machine.tickTimers e.st.timers }
  causes := e.causes ++ timerCauses e.st.timers

/-- A loss of lock (R142), which in CALL moves the engine to HOLDOVER (R145). -/
def Event.loseLock (e : Event) : Event :=
  let unlocked := e.onState fun s => { s with pcm := { s.pcm.endCall with lock := .unlocked, run := 0 } }
  if e.st.engine = .call then
    (unlocked.onState fun s =>
      { s with engine := .holdover, holdover := 0, notices := s.notices.raise .clock }).issue .clockLost
  else unlocked

/-- The lock test of a tick: the sync-seen flag tested and cleared; clear while LOCKED is a loss of lock, clear while
UNLOCKED sets the run count to 0 (R141, R142). -/
def Event.testLock (e : Event) : Event :=
  let tested := e.onState fun s => { s with pcm := { s.pcm with seen := false } }
  if e.st.pcm.seen then tested
  else if e.st.pcm.lock = .locked then tested.loseLock
  else tested.onState fun s => { s with pcm := { s.pcm with run := 0 } }

/-- The ticks since boundary after one more tick, up to 4 (R151, R152). -/
def nextTicks (t : Nat) : Nat := min Config.holdoverSpacing (t + 1)

/-- Whether a tick taken in HOLDOVER brings H to 2,000 (R147). -/
def State.endsCall (s : State) : Bool := decide (Config.holdoverLimit ≤ s.holdover + 1)

/-- A tick in HOLDOVER: the 2,000th ends the call; else H goes up by 1, and a tick that finds T at 4 is a pass boundary
(R147, R152). -/
def Event.holdoverTick (e : Event) : Event :=
  if e.st.endsCall then e.endCall
  else
    let counted := e.onState fun s => { s with holdover := s.holdover + 1, ticks := nextTicks s.ticks }
    if counted.st.ticks = Config.holdoverSpacing then (counted.onState fun s => { s with ticks := 0 }).boundary
    else counted

/-- The Mix Engine's work at a tick, by its state when the tick is taken (R145, R147, R151, R152). -/
def Event.engineTick (e : Event) : Event :=
  match e.st.engine with
  | .stopped => e.testLock
  | .call => (e.onState fun s => { s with ticks := nextTicks s.ticks }).testLock
  | .holdover => e.testLock.holdoverTick

/-- A tick's work on a part that is READY: supervision before the Mix Engine's work (R20), the timers, the lock test and
the engine, all one event. -/
def Event.tick (e : Event) : Event := (e.stepLinks fun i r => r.supervise i).tickTimers.engineTick

/-- A Time Base tick: the first after start-up began sets READY and reaches no other block; while RESET_N is low there is
none (R183). -/
def State.tick (s : State) : State :=
  match s.phase with
  | .inReset => s
  | .startUp => s.endStartUp
  | .ready => ((Event.start s).tick).finish

/-- TICK. -/
def execTick (s : State) : Host.Outcome State Fault Refusal := .next s.tick

/-! ## The frame sync -/

/-- A far-end sample appended to the far-end FIFO; the oldest leaves a full one and is counted (R138). -/
def PcmPort.takeFarEnd (p : PcmPort) (x : Sample) : PcmPort :=
  let all := p.farEnd ++ [x]
  let excess := all.length - Config.fifoCapacity
  { p with farEnd := all.drop excess, farEndSlips := satAdd p.farEndSlips excess }

/-- A WAITING uplink side at `b = 32` with a sample in the uplink FIFO becomes SENDING (R139). -/
def PcmPort.startUplink (p : PcmPort) : PcmPort :=
  if p.side = .waiting ∧ p.b = Config.uplinkStart ∧ p.uplink ≠ [] then { p with side := .sending } else p

/-- The uplink sample of an active frame sync, gated by UL_EN (R139, R140). -/
def PcmPort.sendUplink (p : PcmPort) (ulEn : Bool) : PcmPort :=
  match p.side with
  | .waiting => { p with dout := 0 }
  | .sending =>
    match p.uplink with
    | [] => { p with dout := 0, uplinkSlips := satAdd p.uplinkSlips 1 }
    | x :: rest => { p with dout := if ulEn then x else 0, uplink := rest }

/-- The transfer of a frame sync in CALL, with the boundary count advanced (R137 to R140, R151). -/
def PcmPort.activeFrame (p : PcmPort) (x : Sample) (ulEn : Bool) : PcmPort :=
  (({ p.takeFarEnd x with b := p.b + 1 }).startUplink).sendUplink ulEn

/-- The lock: the port LOCKED, the boundary count 0; in HOLDOVER the engine moves to CALL (R141, R146). -/
def Event.gainLock (e : Event) : Event :=
  let locked := e.onState fun s => { s with pcm := { s.pcm with lock := .locked, run := 0, b := 0 } }
  if e.st.engine = .holdover then
    (locked.onState fun s =>
      { s with
        engine := .call, holdover := 0, ticks := 0
        pcm := { s.pcm with side := .waiting, uplink := [] }
        notices := s.notices.raise .clock }).issue .clockBack
  else locked

/-- Whether a frame sync makes the port LOCKED (R141). -/
def PcmPort.locks (p : PcmPort) : Bool := p.lock == .unlocked && decide (Config.syncRun ≤ p.run + 1)

/-- A frame sync's part in lock detection: the sync-seen flag set, and while UNLOCKED the run count advanced or the lock
made (R137, R141). -/
def Event.detectLock (e : Event) : Event :=
  let seen := e.onState fun s => { s with pcm := { s.pcm with seen := true } }
  if e.st.pcm.locks then seen.gainLock
  else if e.st.pcm.lock = .unlocked then
    seen.onState fun s => { s with pcm := { s.pcm with run := s.pcm.run + 1 } }
  else seen

/-- The boundary of a frame sync in CALL: one that has brought b to 64 sets b and T to 0 and starts a pass (R151). -/
def Event.callBoundary (e : Event) : Event :=
  if Config.syncRun ≤ e.st.pcm.b then
    (e.onState fun s => { s with ticks := 0, pcm := { s.pcm with b := 0 } }).boundary
  else e

/-- A frame sync on a part that is READY (R137). The port is active exactly in CALL. -/
def Event.frameSync (e : Event) (x : Sample) (ulEn : Bool) : Event :=
  if e.st.engine = .call then
    ((e.onState fun s => { s with pcm := s.pcm.activeFrame x ulEn }).detectLock).callBoundary
  else (e.onState fun s => { s with pcm := { s.pcm with dout := 0 } }).detectLock

/-- A rise of FSYNC; before READY it is ignored (R137, R183). -/
def State.frameSync (s : State) (x : Sample) (ulEn : Bool) : State :=
  s.whenReady fun s => ((Event.start s).frameSync x ulEn).finish

/-- FRAME_SYNC. -/
def execFrameSync (farEnd : Sample) (ulEn : Bool) (s : State) : Host.Outcome State Fault Refusal :=
  .next (s.frameSync farEnd ulEn)

/-! ## The rows that name a tick by what it brings about

Each is that very tick, and nothing where the tick now due would not bring it about: then the named event does not
happen (notes/assumptions/2.md). -/

/-- Whether the tick now due expires a link's supervision (R20). -/
def State.supervisionDue (s : State) (i : Fin 8) : Bool :=
  s.isReady && (s.slots.get i).any fun r =>
    (r.state == .priming || r.state == .live) && r.remaining == 1

/-- Whether the tick now due expires a timer (R155, R156). -/
def State.timerIsDue (s : State) (t : Fin 4) : Bool := s.isReady && timerDue s.timers t

/-- Whether the tick now due makes a HOLDOVER boundary (R152). -/
def State.holdoverBoundaryDue (s : State) : Bool :=
  s.isReady && s.engine == .holdover && !s.endsCall && nextTicks s.ticks == Config.holdoverSpacing

/-- Whether the tick now due ends the call (R147). -/
def State.callEndDue (s : State) : Bool := s.isReady && s.engine == .holdover && s.endsCall

/-- SUPERVISION_EXPIRY. -/
def execSupervisionExpiry (link : Fin 8) (s : State) : Host.Outcome State Fault Refusal :=
  .next (if s.supervisionDue link then s.tick else s)

/-- TIMER_EXPIRY. -/
def execTimerExpiry (timer : Fin 4) (s : State) : Host.Outcome State Fault Refusal :=
  .next (if s.timerIsDue timer then s.tick else s)

/-- HOLDOVER_PASS_BOUNDARY. -/
def execHoldoverPassBoundary (s : State) : Host.Outcome State Fault Refusal :=
  .next (if s.holdoverBoundaryDue then s.tick else s)

/-- AUTOMATIC_CALL_END. -/
def execAutomaticCallEnd (s : State) : Host.Outcome State Fault Refusal := .next (if s.callEndDue then s.tick else s)

/-! ## The rows that name a frame sync by what it brings about -/

/-- Whether the next frame sync makes the port LOCKED (R141). -/
def State.lockDue (s : State) : Bool := s.isReady && s.pcm.locks

/-- Whether the next frame sync makes a pass boundary (R151). -/
def State.callBoundaryDue (s : State) : Bool :=
  s.isReady && s.engine == .call && decide (Config.syncRun ≤ s.pcm.b + 1)

/-- LOCK. -/
def execLock (farEnd : Sample) (ulEn : Bool) (s : State) : Host.Outcome State Fault Refusal :=
  .next (if s.lockDue then s.frameSync farEnd ulEn else s)

/-- CALL_PASS_BOUNDARY. -/
def execCallPassBoundary (farEnd : Sample) (ulEn : Bool) (s : State) : Host.Outcome State Fault Refusal :=
  .next (if s.callBoundaryDue then s.frameSync farEnd ulEn else s)

end Sys2Proof.Machine
end

