-- ==== Sys2Proof/Machine/CueSets.lean ====
section
/-! DEFINITION. The cue requests (chapter 9, section 9.6). -/

namespace Sys2Proof.Machine

open Sys2Proof

/-- The chain a list of members gives set `own`, or nothing where it names an index above 3, the set's own, or one twice
(R167). -/
def chain? (own : Fin 4) (members : List Nat) : Option (Bank 4 Bool) :=
  if members.Nodup ∧ ∀ m ∈ members, m < 4 ∧ m ≠ own.val then
    some (Bank.ofFn fun j => members.contains j.val)
  else none

/-- The definition a SET CUE gives set `own`, disabled and with fire count 0, or nothing where test 2 of R167 answers
BAD_VALUE. -/
def CueBody.set? (b : CueBody) (own : Fin 4) : Option CueSet :=
  (cause? b.cause b.causeOperand).bind fun cause =>
  (action? b.action b.first b.second b.value).bind fun action =>
  (Repeat.ofCode b.rep).bind fun rep =>
  (chain? own b.chain).bind fun chain =>
    if b.notify ≤ 1 then
      some { cause, action, rep, chain, notify := b.notify == 1, enabled := false, fireCount := 0 }
    else none

/-- Whether an action is a gain action on the fixed cell (R167, test 3). -/
def Action.namesFixed : Action → Bool
  | .setTarget g _ => g.isFixed
  | .fade g => g.isFixed
  | .cut g => g.isFixed
  | _ => false

/-- SET CUE (R167). -/
def setCue (s : State) (b : CueBody) : Reply :=
  match index? 4 b.set with
  | none => refuse s .badIndex
  | some j =>
    match b.set? j with
    | none => refuse s .badValue
    | some c =>
      if c.action.namesFixed then refuse s .badCell else { st := s.onCue j fun _ => c }

/-- ENABLE CUE (R168). -/
def enableCue (s : State) (v : Nat) : Reply :=
  match index? 4 v with
  | none => refuse s .badIndex
  | some j =>
    if s.cueFault.isSome then refuse s .faultPending
    else { st := s.onCue j fun c => { c with enabled := true } }

/-- DISABLE CUE (R168). -/
def disableCue (s : State) (v : Nat) : Reply :=
  match index? 4 v with
  | none => refuse s .badIndex
  | some j => { st := s.onCue j fun c => { c with enabled := false } }

/-- The FIRE CUE response body: FIRED, or FAULT with its reason (section 11.2, R169). -/
def fireBody : Option FaultReason → List Byte
  | none => byte1 0 ++ byte1 0
  | some reason => byte1 1 ++ byte1 reason.code

/-- FIRE CUE: the set fired at once as a cause group of its own, with its chain (R169). -/
def fireCue (s : State) (v : Nat) : Reply :=
  match index? 4 v with
  | none => refuse s .badIndex
  | some j =>
    if (s.cues.get j).enabled then { st := s.fireWhole j, body := fireBody (s.fireFaults j) }
    else refuse s .wrongState

/-- The members of a chain in ascending order. -/
def chainMembers (chain : Bank 4 Bool) : List Nat := ((List.finRange 4).filter chain.get).map Fin.val

/-- The READ CUE response body (section 11.2, R170). -/
def State.cueBody (s : State) (j : Fin 4) : List Byte :=
  let c := s.cues.get j
  let members := chainMembers c.chain
  byte1 j.val ++ byte1 (causeCode c.cause) ++ byte1 (causeOperand c.cause) ++ byte1 c.action.code ++
  c.action.operandBytes ++ byte2 c.action.valueNat ++ byte1 c.rep.code ++ byte1 (flagCode c.notify) ++
  byte1 members.length ++ (members ++ List.replicate (3 - members.length) 0).flatMap byte1 ++
  byte1 (flagCode c.enabled) ++ byte2 c.fireCount ++ byte1 (flagCode s.cueFault.isSome) ++
  (match s.cueFault with
   | some f => byte1 f.set.val ++ byte1 f.reason.code
   | none => byte1 0 ++ byte1 0)

/-- READ CUE (R170). -/
def readCue (s : State) (v : Nat) : Reply :=
  match index? 4 v with
  | none => refuse s .badIndex
  | some j => { st := s, body := s.cueBody j }

/-- SET_CUE. -/
def execSetCue (s : State) : Host.Outcome State Fault Refusal := .next (s.takeRequest 0x12 bodyCue setCue)

/-- ENABLE_CUE. -/
def execEnableCue (s : State) : Host.Outcome State Fault Refusal := .next (s.takeRequest 0x13 bodyByte enableCue)

/-- DISABLE_CUE. -/
def execDisableCue (s : State) : Host.Outcome State Fault Refusal := .next (s.takeRequest 0x14 bodyByte disableCue)

/-- FIRE_CUE. -/
def execFireCue (s : State) : Host.Outcome State Fault Refusal := .next (s.takeRequest 0x15 bodyByte fireCue)

/-- READ_CUE. -/
def execReadCue (s : State) : Host.Outcome State Fault Refusal := .next (s.takeRequest 0x16 bodyByte readCue)

end Sys2Proof.Machine
end

