-- ==== Sys2Proof/Machine/Gains.lean ====
section
/-! DEFINITION. The gain requests and SET SIDETONE CEILING (chapter 6). -/

namespace Sys2Proof.Machine

open Sys2Proof

/-- The ramped gain a designator names, or the first refusal: BAD_VALUE for no designator, BAD_CELL for the fixed cell
(R111, tests 1 and 2). -/
def designator (output source : Nat) : Except Status GainName :=
  match GainName.ofCodes output source with
  | none => .error .badValue
  | some g => if g.isFixed then .error .badCell else .ok g

/-- Current, target and ramp step, two bytes each (section 11.2). -/
def Gains.body (g : Gains) (name : GainName) : List Byte :=
  match g.get? name with
  | some x => byte2 x.current ++ byte2 x.target ++ byte2 x.step
  | none => []

/-- An accepted gain request: the gains written, the named gain's fields answered as the request left them. -/
def State.gainReply (s : State) (g : Gains) (name : GainName) : Reply :=
  { st := { s with gains := g }, body := g.body name }

/-- Whether the target and the ramp step of a SET GAIN lie in their ranges (R111, test 3). -/
def SetGainBody.inRange (b : SetGainBody) : Bool :=
  decide (b.target ≤ Config.gainMax) &&
    match b.step with
    | some r => decide (1 ≤ r) && decide (r ≤ Config.gainMax)
    | none => true

/-- SET GAIN (R111, R112). -/
def setGain (s : State) (b : SetGainBody) : Reply :=
  match designator b.output b.source with
  | .error e => refuse s e
  | .ok g => if b.inRange then s.gainReply (s.gains.writeTarget g b.target b.step) g else refuse s .badValue

/-- FADE (R113). -/
def fadeGain (s : State) (b : Nat × Nat) : Reply :=
  match designator b.1 b.2 with
  | .error e => refuse s e
  | .ok g => s.gainReply (s.gains.fade g) g

/-- CUT (R114). -/
def cutGain (s : State) (b : Nat × Nat) : Reply :=
  match designator b.1 b.2 with
  | .error e => refuse s e
  | .ok g => s.gainReply (s.gains.cut g) g

/-- STEP GAIN (R115). -/
def stepGain (s : State) (b : Nat × Nat) : Reply :=
  match index? 4 b.1 with
  | none => refuse s .badIndex
  | some i =>
    match Direction.ofCode b.2 with
    | none => refuse s .badValue
    | some d => s.gainReply (s.gains.stepLevel (.down i) d (s.seats.get i).stepSize) (.level (.down i))

/-- READ GAIN (R116). -/
def readGain (s : State) (b : Nat × Nat) : Reply :=
  match designator b.1 b.2 with
  | .error e => refuse s e
  | .ok g => { st := s, body := s.gains.body g ++ byte1 (flagCode g.isOwn) ++ byte2 s.gains.ceiling }

/-- SET SIDETONE CEILING (R108). -/
def setCeiling (s : State) (v : Nat) : Reply :=
  if v ≤ Config.ceilingMax then { st := { s with gains := s.gains.setCeiling v }, body := byte2 v }
  else refuse s .badValue

/-- SET_GAIN. -/
def execSetGain (s : State) : Host.Outcome State Fault Refusal := .next (s.takeRequest 0x08 bodySetGain setGain)

/-- FADE. -/
def execFade (s : State) : Host.Outcome State Fault Refusal := .next (s.takeRequest 0x09 bodyPair fadeGain)

/-- CUT. -/
def execCut (s : State) : Host.Outcome State Fault Refusal := .next (s.takeRequest 0x0A bodyPair cutGain)

/-- STEP_GAIN. -/
def execStepGain (s : State) : Host.Outcome State Fault Refusal := .next (s.takeRequest 0x0B bodyPair stepGain)

/-- READ_GAIN. -/
def execReadGain (s : State) : Host.Outcome State Fault Refusal := .next (s.takeRequest 0x0C bodyPair readGain)

/-- SET_SIDETONE_CEILING. -/
def execSetSidetoneCeiling (s : State) : Host.Outcome State Fault Refusal :=
  .next (s.takeRequest 0x0D bodyWord setCeiling)

end Sys2Proof.Machine
end

