-- ==== Sys2Proof/Machine/LinkTable.lean ====
section
/-! DEFINITION. The five Link Table requests (chapter 1, section 1.5). -/

namespace Sys2Proof.Machine

open Sys2Proof

/-! ## Configurations as a request gives them -/

/-- A configuration whose fields are not yet checked: the twelve fields of section 1.2 by field number, as numbers. -/
structure RawConfig where
  handle : Nat
  seat : Nat
  side : Nat
  blockLength : Nat
  startLevel : Nat
  lowMark : Nat
  supervision : Nat
  loopShift : Nat
  starveLimit : Nat
  talkOn : Nat
  talkOff : Nat
  hang : Nat
deriving DecidableEq, Repr

/-- The block lengths (section 1.2). -/
def blockLengths : List Nat := [40, 60, 80, 120, 160, 240]

/-- The start level a record takes where ADMIT LINK names none (R4). -/
def defaultStartLevel (block : Nat) : Nat :=
  min (Config.worstSupply + 2 * block) (Config.queueCapacity - block)

/-- The configuration an ADMIT LINK with no optional entry asks for: its required fields and the defaults of section 1.2
(R4, R8). -/
def RawConfig.defaults (handle seat side block : Nat) : RawConfig where
  handle := handle
  seat := seat
  side := side
  blockLength := block
  startLevel := defaultStartLevel block
  lowMark := 66
  supervision := 200
  loopShift := 3
  starveLimit := 4
  talkOn := 1024
  talkOff := 512
  hang := 25

/-- A checked configuration as numbers. -/
def LinkConfig.raw (c : LinkConfig) : RawConfig where
  handle := c.handle.toNat
  seat := c.seat.val
  side := c.side.code
  blockLength := c.blockLength
  startLevel := c.startLevel
  lowMark := c.lowMark
  supervision := c.supervision
  loopShift := c.loopShift
  starveLimit := c.starveLimit
  talkOn := c.talkOn
  talkOff := c.talkOff
  hang := c.hang

/-- One field written, by its field number (section 11.2: handle = 1 to hang = 12). -/
def RawConfig.write (c : RawConfig) (entry : Nat × Nat) : RawConfig :=
  match entry.1 with
  | 1 => { c with handle := entry.2 }
  | 2 => { c with seat := entry.2 }
  | 3 => { c with side := entry.2 }
  | 4 => { c with blockLength := entry.2 }
  | 5 => { c with startLevel := entry.2 }
  | 6 => { c with lowMark := entry.2 }
  | 7 => { c with supervision := entry.2 }
  | 8 => { c with loopShift := entry.2 }
  | 9 => { c with starveLimit := entry.2 }
  | 10 => { c with talkOn := entry.2 }
  | 11 => { c with talkOff := entry.2 }
  | 12 => { c with hang := entry.2 }
  | _ => c

/-- Every entry written. -/
def RawConfig.writeAll (c : RawConfig) (entries : List (Nat × Nat)) : RawConfig := entries.foldl RawConfig.write c

/-- Whether every field lies in its range and the three relations hold (R3). -/
def RawConfig.valid (c : RawConfig) : Bool :=
  decide (c.handle ≤ Config.handleMax) && decide (c.seat ≤ 3) && decide (c.side ≤ 1) &&
  blockLengths.contains c.blockLength &&
  decide (Config.worstSupply + c.blockLength ≤ c.startLevel) &&
  decide (c.startLevel ≤ Config.queueCapacity - c.blockLength) &&
  decide (c.lowMark ≤ c.startLevel) &&
  decide (20 ≤ c.supervision) && decide (c.supervision ≤ 2000) &&
  decide (c.loopShift ≤ 6) && decide (1 ≤ c.starveLimit) && decide (c.starveLimit ≤ 16) &&
  decide (c.talkOn ≤ 32768) && decide (c.talkOff ≤ c.talkOn) && decide (c.hang ≤ 255)

/-- The configuration that numbers give, or nothing where they are not valid (R3). -/
def RawConfig.check (c : RawConfig) : Option LinkConfig :=
  if c.valid then
    (index? 4 c.seat).bind fun seat => (Side.ofCode c.side).map fun side =>
      { handle := BitVec.ofNat 12 c.handle, seat, side
        blockLength := c.blockLength, startLevel := c.startLevel, lowMark := c.lowMark
        supervision := c.supervision, loopShift := c.loopShift, starveLimit := c.starveLimit
        talkOn := c.talkOn, talkOff := c.talkOff, hang := c.hang }
  else none

/-- Whether the entries name only fields `lo` to 12, each at most once. -/
def entriesOk (lo : Nat) (entries : List (Nat × Nat)) : Bool :=
  entries.all (fun e => decide (lo ≤ e.1) && decide (e.1 ≤ 12)) && decide (entries.map (·.1)).Nodup

/-! ## ADMIT LINK -/

/-- The configuration an ADMIT LINK asks for, or nothing where its first test answers BAD_VALUE (R8). -/
def AdmitBody.config? (a : AdmitBody) : Option LinkConfig :=
  if entriesOk 5 a.entries then
    ((RawConfig.defaults a.handle a.seat a.side a.blockLength).writeAll a.entries).check
  else none

/-- A new record in a slot, with the slot's change flag and LINK set (R1, R8). -/
def State.admitTo (s : State) (i : Fin 8) (c : LinkConfig) : State :=
  { s.markLink i with slots := s.slots.set i (some (LinkRecord.admitted c)) }

/-- ADMIT LINK (R8). -/
def admitLink (s : State) (a : AdmitBody) : Reply :=
  match a.config? with
  | none => refuse s .badValue
  | some c =>
    match s.freeSlot with
    | none => refuse s .tableFull
    | some i =>
      if (s.byHandle c.handle.toNat).isSome then refuse s .duplicateHandle
      else if (holder s.slots c.seat c.side).isSome then refuse s .seatTaken
      else { st := s.admitTo i c, body := byte1 i.val }

/-! ## The other requests -/

/-- The record an index names, or the refusal: BAD_INDEX above 7, NO_RECORD for a FREE slot (R10, R12, R14). -/
def State.recordAt (s : State) (v : Nat) : Except Status (Fin 8 × LinkRecord) :=
  match index? 8 v with
  | none => .error .badIndex
  | some i =>
    match s.slots.get i with
    | none => .error .noRecord
    | some r => .ok (i, r)

/-- Whether an amended configuration changes the seat, the side or the block length (R10, test 5). -/
def LinkConfig.moves (old new : LinkConfig) : Bool :=
  old.seat != new.seat || old.side != new.side || old.blockLength != new.blockLength

/-- Whether another record holds the seat and side of an amended configuration that changes them (R10, test 6). -/
def State.seatClash (s : State) (i : Fin 8) (old new : LinkConfig) : Bool :=
  (old.seat != new.seat || old.side != new.side) &&
    s.slots.any fun j o => j != i && o.any fun r => r.config.seat == new.seat && r.config.side == new.side

/-- A record with an amended configuration; a change of the block length makes the last received block absent (R6,
R10). -/
def LinkRecord.amended (r : LinkRecord) (c : LinkConfig) : LinkRecord :=
  { r with config := c, lastBlock := if c.blockLength = r.config.blockLength then r.lastBlock else none }

/-- AMEND LINK (R10). -/
def amendLink (s : State) (b : Nat × List (Nat × Nat)) : Reply :=
  match s.recordAt b.1 with
  | .error e => refuse s e
  | .ok (i, r) =>
    if entriesOk 2 b.2 then
      match (r.config.raw.writeAll b.2).check with
      | none => refuse s .badValue
      | some c =>
        if r.config.moves c ∧ (r.state = .priming ∨ r.state = .live) then refuse s .wrongState
        else if s.seatClash i r.config c then refuse s .seatTaken
        else { st := { s with slots := s.slots.set i (some (r.amended c)) } }
    else refuse s .badValue

/-- The byte at offset 20 of the READ LINK body: bit 0 expected present, bit 1 last received block present, bit 2
below-low-mark flag, bit 3 TALKING. -/
def LinkRecord.marks (r : LinkRecord) : Nat :=
  flagCode r.expected.isSome + 2 * flagCode r.lastBlock.isSome + 4 * flagCode r.belowLow +
    8 * flagCode (r.activity == .talking)

/-- The nine counters, two bytes each, in the order of the counter table. -/
def LinkCounters.bytes (c : LinkCounters) : List Byte :=
  byte2 c.accepted ++ byte2 c.concealed ++ byte2 c.stale ++ byte2 c.overflow ++ byte2 c.underruns ++
    byte2 c.reprimes ++ byte2 c.losses ++ byte2 c.driftLimits ++ byte2 c.downDropped

/-- The READ LINK response body (section 11.2, R12). -/
def LinkRecord.body (r : LinkRecord) (i : Fin 8) : List Byte :=
  byte1 i.val ++ byte1 r.state.code ++ byte2 r.config.handle.toNat ++ byte1 r.config.seat.val ++
  byte1 r.config.side.code ++ byte1 r.config.blockLength ++ byte2 r.config.startLevel ++ byte2 r.config.lowMark ++
  byte2 r.config.supervision ++ byte1 r.config.loopShift ++ byte1 r.config.starveLimit ++ byte2 r.config.talkOn ++
  byte2 r.config.talkOff ++ byte1 r.config.hang ++ byte1 r.marks ++
  [r.expected.getD 0] ++ byte1 (r.lastBlock.map List.length |>.getD 0) ++
  byte2 (BitVec.ofInt 16 r.drift).toNat ++ leBytes 3 r.phase ++ byte2 r.windowSum ++ byte1 r.windowCount ++
  byte1 r.starve ++ byte2 r.remaining ++ byte2 r.lastLevel ++ byte1 r.talkRun ++ byte1 r.hangCount ++
  leBytes 4 r.downPosition ++ byte2 r.heldSample.toNat ++ [r.downSeq] ++ r.counters.bytes ++
  byte2 r.jitter.length ++ byte2 r.downlink.length

/-- READ LINK (R12). -/
def readLink (s : State) (v : Nat) : Reply :=
  match s.recordAt v with
  | .error e => refuse s e
  | .ok (i, r) => { st := s, body := r.body i }

/-- FIND LINK (R13). -/
def findLink (s : State) (handle : Nat) : Reply :=
  if handle ≤ Config.handleMax then
    match s.recordOf handle with
    | some (i, r) => { st := s, body := byte1 i.val ++ byte1 r.state.code }
    | none => refuse s .noRecord
  else refuse s .badValue

/-- A retirement: the slot FREE with the record's queues, the change flag and LINK set (R14). -/
def State.retire (s : State) (i : Fin 8) : State := { s.markLink i with slots := s.slots.set i none }

/-- RETIRE LINK (R14). -/
def retireLink (s : State) (v : Nat) : Reply :=
  match s.recordAt v with
  | .error e => refuse s e
  | .ok (i, r) => { st := s.retire i, causes := r.departure i }

/-! ## The commands -/

/-- ADMIT_LINK. -/
def execAdmitLink (s : State) : Host.Outcome State Fault Refusal := .next (s.takeRequest 0x01 bodyAdmit admitLink)

/-- AMEND_LINK. -/
def execAmendLink (s : State) : Host.Outcome State Fault Refusal := .next (s.takeRequest 0x02 bodyAmend amendLink)

/-- READ_LINK. -/
def execReadLink (s : State) : Host.Outcome State Fault Refusal := .next (s.takeRequest 0x03 bodyByte readLink)

/-- FIND_LINK. -/
def execFindLink (s : State) : Host.Outcome State Fault Refusal := .next (s.takeRequest 0x04 bodyWord findLink)

/-- RETIRE_LINK. -/
def execRetireLink (s : State) : Host.Outcome State Fault Refusal := .next (s.takeRequest 0x05 bodyByte retireLink)

end Sys2Proof.Machine
end

