-- ==== Sys2Proof/Machine/Seats.lean ====
section
/-! DEFINITION. The requests SET SEAT and READ SEAT (chapter 5). -/

namespace Sys2Proof.Machine

open Sys2Proof

/-- The fade lengths (R84). -/
def fadeLengths : List Nat := [1, 2, 4, 8, 16, 32]

/-- A seat record with its four configuration fields written (R85, R92). -/
def SeatRecord.configured (r : SeatRecord) (m : SeatMode) (b : SeatBody) : SeatRecord :=
  { r.writeMode m with fadeLength := b.fadeLength, returnHold := b.returnHold, stepSize := b.stepSize }

/-- SET SEAT (R85). -/
def setSeat (s : State) (b : SeatBody) : Reply :=
  match index? 4 b.seat with
  | none => refuse s .badIndex
  | some i =>
    match SeatMode.ofCode b.mode with
    | none => refuse s .badValue
    | some m =>
      if fadeLengths.contains b.fadeLength ∧ b.returnHold ≤ 255 ∧ 1 ≤ b.stepSize ∧ b.stepSize ≤ 4096 then
        { st := s.onSeat i fun r => r.configured m b }
      else refuse s .badValue

/-- The READ SEAT entry of one side: index, state and activity of the record that holds it, or 0xFF, 0, 0 (R17, R86). -/
def State.sideEntry (s : State) (seat : Fin 4) (side : Side) : List Byte :=
  match (holder s.slots seat side).bind fun i => (s.slots.get i).map fun r => (i, r) with
  | some (i, r) => byte1 i.val ++ byte1 r.state.code ++ byte1 r.activity.code
  | none => byte1 0xFF ++ byte1 0 ++ byte1 0

/-- The READ SEAT entry of the crossfade: present mark, old side, new side, k, N. -/
def crossfadeBytes : Option Crossfade → List Byte
  | some x => byte1 1 ++ byte1 x.old.code ++ byte1 x.new.code ++ byte1 x.k ++ byte1 x.n
  | none => byte1 0 ++ byte1 0 ++ byte1 0 ++ byte1 0 ++ byte1 0

/-- The READ SEAT response body (section 11.2, R86). -/
def State.seatBody (s : State) (i : Fin 4) : List Byte :=
  let r := s.seats.get i
  byte1 i.val ++ byte1 r.mode.code ++ byte1 r.fadeLength ++ byte1 r.returnHold ++ byte2 r.stepSize ++
  byte1 (voiceCode r.voice) ++ crossfadeBytes r.crossfade ++ byte2 r.stable ++
  s.sideEntry i .left ++ s.sideEntry i .right

/-- READ SEAT (R86). -/
def readSeat (s : State) (v : Nat) : Reply :=
  match index? 4 v with
  | none => refuse s .badIndex
  | some i => { st := s, body := s.seatBody i }

/-- SET_SEAT. -/
def execSetSeat (s : State) : Host.Outcome State Fault Refusal := .next (s.takeRequest 0x06 bodySeat setSeat)

/-- READ_SEAT. -/
def execReadSeat (s : State) : Host.Outcome State Fault Refusal := .next (s.takeRequest 0x07 bodyByte readSeat)

end Sys2Proof.Machine
end

