-- ==== Sys2Proof/Machine/Timers.lean ====
section
/-! DEFINITION. The timer requests (chapter 9, section 9.1). -/

namespace Sys2Proof.Machine

open Sys2Proof

/-- LOAD TIMER: load, mode and source written, the state and the current count left as they stand (R157). -/
def loadTimer (s : State) (b : LoadBody) : Reply :=
  match index? 4 b.index with
  | none => refuse s .badIndex
  | some i =>
    match TimerMode.ofCode b.mode, TimerSource.ofCode b.source with
    | some mode, some source =>
      if b.load = 0 ∨ (source = .cascade ∧ i = 0) then refuse s .badValue
      else { st := { s with timers := s.timers.set i { s.timers.get i with load := b.load, mode, source } } }
    | _, _ => refuse s .badValue

/-- START TIMER (R158). -/
def startTimer (s : State) (v : Nat) : Reply :=
  match index? 4 v with
  | none => refuse s .badIndex
  | some i =>
    if cascadeIdle s.timers i then refuse s .wrongState
    else { st := { s with timers := startedTimers s.timers i } }

/-- STOP TIMER (R159). -/
def stopTimer (s : State) (v : Nat) : Reply :=
  match index? 4 v with
  | none => refuse s .badIndex
  | some i => { st := { s with timers := stoppedTimers s.timers i } }

/-- The READ TIMER response body: load, current count, mode, source, state (section 11.2, R159). -/
def Timer.body (t : Timer) : List Byte :=
  byte2 t.load ++ byte2 t.count ++ byte1 t.mode.code ++ byte1 t.source.code ++ byte1 t.state.code

/-- READ TIMER (R159). -/
def readTimer (s : State) (v : Nat) : Reply :=
  match index? 4 v with
  | none => refuse s .badIndex
  | some i => { st := s, body := (s.timers.get i).body }

/-- LOAD_TIMER. -/
def execLoadTimer (s : State) : Host.Outcome State Fault Refusal := .next (s.takeRequest 0x0E bodyLoad loadTimer)

/-- START_TIMER. -/
def execStartTimer (s : State) : Host.Outcome State Fault Refusal := .next (s.takeRequest 0x0F bodyByte startTimer)

/-- STOP_TIMER. -/
def execStopTimer (s : State) : Host.Outcome State Fault Refusal := .next (s.takeRequest 0x10 bodyByte stopTimer)

/-- READ_TIMER. -/
def execReadTimer (s : State) : Host.Outcome State Fault Refusal := .next (s.takeRequest 0x11 bodyByte readTimer)

end Sys2Proof.Machine
end

