-- ==== Sys2Proof/Machine/Dispatch.lean ====
section
/-! DEFINITION. One arm per command, each one direct call of its meaning. -/

namespace Sys2Proof.Machine

open Sys2Proof

def exec (i : Instr) (s : State) : Host.Outcome State Fault Refusal :=
  match i with
  | .resetNFall => Sys2Proof.Machine.execResetNFall s
  | .resetNRise => Sys2Proof.Machine.execResetNRise s
  | .startUpEnd => Sys2Proof.Machine.execStartUpEnd s
  | .tick => Sys2Proof.Machine.execTick s
  | .supervisionExpiry link => Sys2Proof.Machine.execSupervisionExpiry link s
  | .timerExpiry timer => Sys2Proof.Machine.execTimerExpiry timer s
  | .holdoverPassBoundary => Sys2Proof.Machine.execHoldoverPassBoundary s
  | .automaticCallEnd => Sys2Proof.Machine.execAutomaticCallEnd s
  | .frameSync farEnd ulEn => Sys2Proof.Machine.execFrameSync farEnd ulEn s
  | .lock farEnd ulEn => Sys2Proof.Machine.execLock farEnd ulEn s
  | .callPassBoundary farEnd ulEn => Sys2Proof.Machine.execCallPassBoundary farEnd ulEn s
  | .passCompletion => Sys2Proof.Machine.execPassCompletion s
  | .audioDownComplete => Sys2Proof.Machine.execAudioDownComplete s
  | .audioUp bytes ends => Sys2Proof.Machine.execAudioUp bytes ends s
  | .linkStatus bytes ends => Sys2Proof.Machine.execLinkStatus bytes ends s
  | .writeTransaction shift => Sys2Proof.Machine.execWriteTransaction shift s
  | .readTransaction shift => Sys2Proof.Machine.execReadTransaction shift s
  | .admitLink => Sys2Proof.Machine.execAdmitLink s
  | .amendLink => Sys2Proof.Machine.execAmendLink s
  | .readLink => Sys2Proof.Machine.execReadLink s
  | .findLink => Sys2Proof.Machine.execFindLink s
  | .retireLink => Sys2Proof.Machine.execRetireLink s
  | .setSeat => Sys2Proof.Machine.execSetSeat s
  | .readSeat => Sys2Proof.Machine.execReadSeat s
  | .setGain => Sys2Proof.Machine.execSetGain s
  | .fade => Sys2Proof.Machine.execFade s
  | .cut => Sys2Proof.Machine.execCut s
  | .stepGain => Sys2Proof.Machine.execStepGain s
  | .readGain => Sys2Proof.Machine.execReadGain s
  | .setSidetoneCeiling => Sys2Proof.Machine.execSetSidetoneCeiling s
  | .loadTimer => Sys2Proof.Machine.execLoadTimer s
  | .startTimer => Sys2Proof.Machine.execStartTimer s
  | .stopTimer => Sys2Proof.Machine.execStopTimer s
  | .readTimer => Sys2Proof.Machine.execReadTimer s
  | .setCue => Sys2Proof.Machine.execSetCue s
  | .enableCue => Sys2Proof.Machine.execEnableCue s
  | .disableCue => Sys2Proof.Machine.execDisableCue s
  | .fireCue => Sys2Proof.Machine.execFireCue s
  | .readCue => Sys2Proof.Machine.execReadCue s
  | .callStart => Sys2Proof.Machine.execCallStart s
  | .callEnd => Sys2Proof.Machine.execCallEnd s
  | .callClear => Sys2Proof.Machine.execCallClear s
  | .readNotices => Sys2Proof.Machine.execReadNotices s
  | .clearNotices => Sys2Proof.Machine.execClearNotices s
  | .setNoticeMask => Sys2Proof.Machine.execSetNoticeMask s
  | .clearClip => Sys2Proof.Machine.execClearClip s
  | .readPortCounters => Sys2Proof.Machine.execReadPortCounters s
  | .identify => Sys2Proof.Machine.execIdentify s
  | .reset => Sys2Proof.Machine.execReset s
  | .csNFall => Sys2Proof.Machine.execCsNFall s
  | .framingRefusal => Sys2Proof.Machine.execFramingRefusal s

end Sys2Proof.Machine
end

