-- ==== Sys2Proof/Safety.lean ====
section
/-! DEFINITION. The words the statements use: a request held in the request buffer, a response placed, and what it means
that the records of the part are as the spec says they always are. -/

namespace Sys2Proof.Machine

open Sys2Proof

/-! ## A request held, a response placed -/

/-- The bytes of a request message with this code, tag and body: the length counts the bytes after it (section 11.2). -/
def requestBytes (code tag : Byte) (body : List Byte) : List Byte :=
  BitVec.ofNat 8 (body.length + 2) :: code :: tag :: body

/-- The part is READY and holds exactly this request message. -/
def State.Holds (s : State) (code tag : Byte) (body : List Byte) : Prop :=
  s.phase = .ready ∧ s.iface = .executing { bytes := requestBytes code tag body, count := body.length + 3 }

/-- The part with this response placed, in everything else unchanged. -/
def State.responded (s : State) (code tag : Byte) (status : Status) (body : List Byte) : State :=
  { s with iface := .responsePending { code, tag, status, body } }

/-- The request code of each request row (section 11.2). -/
def requestCode : Instr → Option Byte
  | .admitLink => some 0x01
  | .amendLink => some 0x02
  | .readLink => some 0x03
  | .findLink => some 0x04
  | .retireLink => some 0x05
  | .setSeat => some 0x06
  | .readSeat => some 0x07
  | .setGain => some 0x08
  | .fade => some 0x09
  | .cut => some 0x0A
  | .stepGain => some 0x0B
  | .readGain => some 0x0C
  | .setSidetoneCeiling => some 0x0D
  | .loadTimer => some 0x0E
  | .startTimer => some 0x0F
  | .stopTimer => some 0x10
  | .readTimer => some 0x11
  | .setCue => some 0x12
  | .enableCue => some 0x13
  | .disableCue => some 0x14
  | .fireCue => some 0x15
  | .readCue => some 0x16
  | .callStart => some 0x17
  | .callEnd => some 0x18
  | .callClear => some 0x19
  | .readNotices => some 0x1A
  | .clearNotices => some 0x1B
  | .setNoticeMask => some 0x1C
  | .clearClip => some 0x1D
  | .readPortCounters => some 0x1E
  | .identify => some 0x1F
  | .reset => some 0x20
  | .resetNFall | .resetNRise | .startUpEnd | .tick | .supervisionExpiry _ | .timerExpiry _ | .holdoverPassBoundary
  | .automaticCallEnd | .frameSync _ _ | .lock _ _ | .callPassBoundary _ _ | .passCompletion | .audioDownComplete
  | .audioUp _ _ | .linkStatus _ _ | .writeTransaction _ | .readTransaction _ | .csNFall | .framingRefusal => none

/-- Whether a body length (and, for SET CUE, the member count in the body) is one that section 11.2 lists for a request
code. -/
def AllowedBody (code : Byte) (body : List Byte) : Prop :=
  let n := body.length
  match code.toNat with
  | 0x01 => ∃ k ≤ 8, n = 5 + 3 * k
  | 0x02 => ∃ k, 1 ≤ k ∧ k ≤ 11 ∧ n = 1 + 3 * k
  | 0x06 => n = 7
  | 0x08 => n = 4 ∨ n = 6
  | 0x0E => n = 5
  | 0x12 => 11 ≤ n ∧ n ≤ 14 ∧ (body.getD 10 0).toNat = n - 11
  | 0x1B => n ≤ 6
  | 0x1C => n ≤ 6
  | 0x1D => n ≤ 5
  | c =>
    if c ∈ [0x03, 0x05, 0x07, 0x0F, 0x10, 0x11, 0x13, 0x14, 0x15, 0x16] then n = 1
    else if c ∈ [0x04, 0x09, 0x0A, 0x0B, 0x0C, 0x0D] then n = 2
    else if c ∈ [0x17, 0x18, 0x19, 0x1A, 0x1E, 0x1F, 0x20] then n = 0
    else False

/-- The value that the entries give a field, or `kept` where none names it. -/
def fieldNamed (entries : List (Nat × Nat)) (field kept : Nat) : Nat :=
  match entries.find? fun e => e.1 == field with
  | some e => e.2
  | none => kept

/-! ## Transactions in statements -/

/-- The part once `n` bytes of a transaction that it ignores have gone by: MISO sent 0 for each, and nothing else happened but
CS_N's rise, where there was one (R172). -/
def State.passedBy (s : State) (n : Nat) (ends : Bool) : State :=
  { s with
    transaction := if ends then .idle else s.transaction
    miso := s.miso ++ List.replicate n 0 }

/-- A transaction has just fallen with the part READY: no byte of it has been shifted yet, its status byte is fixed, and so is
the response that a READ will send (R172, R177). -/
def State.Began (s : State) (status : Byte) (sends : Option Response) : Prop :=
  s.phase = .ready ∧ s.transaction = .taken { status, sends, kind := none, bytes := [], count := 0 }

/-! ## The codes of section 11.2 -/

/-- Sides. -/
def SideCodes : Prop := Side.left.code = 0 ∧ Side.right.code = 1

/-- Link states. -/
def LinkStateCodes : Prop :=
  LinkState.standby.code = 0 ∧ LinkState.priming.code = 1 ∧ LinkState.live.code = 2 ∧ LinkState.lost.code = 3

/-- Activities. -/
def ActivityCodes : Prop := Activity.quiet.code = 0 ∧ Activity.talking.code = 1

/-- Seat modes. -/
def SeatModeCodes : Prop :=
  (SeatMode.fixed .left).code = 0 ∧ (SeatMode.fixed .right).code = 1 ∧ (SeatMode.prefer .left).code = 2 ∧
  (SeatMode.prefer .right).code = 3

/-- Timer modes, sources and states. -/
def TimerCodes : Prop :=
  TimerMode.oneShot.code = 0 ∧ TimerMode.periodic.code = 1 ∧ TimerSource.tick.code = 0 ∧ TimerSource.cascade.code = 1 ∧
  TimerState.idle.code = 0 ∧ TimerState.running.code = 1

/-- Outputs by their numbers. -/
def OutputCodes : Prop := Output.uplink.code = 0 ∧ ∀ d, (Output.down d).code = d.val + 1

/-- Causes with their operands: a link index, a timer index or an output number, as the cause takes, and 0 where it takes
none. -/
def CauseCodes : Prop :=
  (causeCode none = 0 ∧ causeOperand none = 0) ∧
  (∀ i : Fin 8,
    causeCode (some (.linkLive i)) = 1 ∧ causeCode (some (.linkLeftLive i)) = 2 ∧ causeCode (some (.talkStart i)) = 3 ∧
    causeCode (some (.talkEnd i)) = 4 ∧ causeCode (some (.lowFill i)) = 5 ∧
    ∀ c, c = Cause.linkLive i ∨ c = .linkLeftLive i ∨ c = .talkStart i ∨ c = .talkEnd i ∨ c = .lowFill i →
      causeOperand (some c) = i.val) ∧
  (∀ t : Fin 4, causeCode (some (.timer t)) = 6 ∧ causeOperand (some (.timer t)) = t.val) ∧
  (∀ o, causeCode (some (.clip o)) = 7 ∧ causeOperand (some (.clip o)) = o.code) ∧
  causeCode (some .clockLost) = 8 ∧ causeOperand (some .clockLost) = 0 ∧
  causeCode (some .clockBack) = 9 ∧ causeOperand (some .clockBack) = 0

/-- Actions with their operands and values: the designator of a gain, a timer index and 0, a seat and a side; the target, or
the direction of a step. -/
def ActionCodes : Prop :=
  (Action.none.code = 0 ∧ Action.none.operandBytes = [0, 0] ∧ Action.none.valueNat = 0) ∧
  (∀ g v, (Action.setTarget g v).code = 1 ∧ (Action.setTarget g v).operandBytes = g.codes ∧
    (Action.setTarget g v).valueNat = v) ∧
  (∀ g, (Action.fade g).code = 2 ∧ (Action.fade g).operandBytes = g.codes ∧ (Action.fade g).valueNat = 0) ∧
  (∀ g, (Action.cut g).code = 3 ∧ (Action.cut g).operandBytes = g.codes ∧ (Action.cut g).valueNat = 0) ∧
  (∀ o, (Action.step o .up).valueNat = 0 ∧ (Action.step o .down).valueNat = 1 ∧
    ∀ d, (Action.step o d).code = 4 ∧ (Action.step o d).operandBytes = (GainName.level o).codes) ∧
  (∀ t : Fin 4, (Action.startTimer t).code = 5 ∧ (Action.stopTimer t).code = 6 ∧
    ∀ a, a = Action.startTimer t ∨ a = .stopTimer t → a.operandBytes = [BitVec.ofNat 8 t.val, 0] ∧ a.valueNat = 0) ∧
  ∀ (seat : Fin 4) (side : Side), (Action.prefer seat side).code = 7 ∧ (Action.prefer seat side).valueNat = 0 ∧
    (Action.prefer seat side).operandBytes = [BitVec.ofNat 8 seat.val, BitVec.ofNat 8 side.code]

/-- Repeats. -/
def RepeatCodes : Prop := Repeat.once.code = 0 ∧ Repeat.always.code = 1

/-- Fault reasons; a fault record absent is told as 0. -/
def FaultReasonCodes : Prop := FaultReason.sideEmpty.code = 1 ∧ FaultReason.cascadeIdle.code = 2

/-- Lock states and mix engine states. -/
def LockAndEngineCodes : Prop :=
  LockState.unlocked.code = 0 ∧ LockState.locked.code = 1 ∧
  EngineState.stopped.code = 0 ∧ EngineState.call.code = 1 ∧ EngineState.holdover.code = 2

/-- Status codes. -/
def StatusCodes : Prop :=
  Status.ok.code = 0x00 ∧ Status.badRequest.code = 0x01 ∧ Status.badIndex.code = 0x02 ∧ Status.badValue.code = 0x03 ∧
  Status.badCell.code = 0x04 ∧ Status.wrongState.code = 0x05 ∧ Status.noRecord.code = 0x06 ∧
  Status.tableFull.code = 0x07 ∧ Status.duplicateHandle.code = 0x08 ∧ Status.seatTaken.code = 0x09 ∧
  Status.faultPending.code = 0x0A

/-! ## Reading bytes -/

/-- Byte `k` of a message, as a number. -/
def byteAt (bytes : List Byte) (k : Nat) : Nat := (bytes.getD k 0).toNat

/-- The two-byte field at offset `k` of a message, least significant byte first. -/
def wordAt (bytes : List Byte) (k : Nat) : Nat := byteAt bytes k + 256 * byteAt bytes (k + 1)

/-- The bytes of entries of field number (1) and value (2). -/
def entryBytes (entries : List (Byte × Byte × Byte)) : List Byte := entries.flatMap fun e => [e.1, e.2.1, e.2.2]

/-- Entries as numbers. -/
def entryValues (entries : List (Byte × Byte × Byte)) : List (Nat × Nat) :=
  entries.map fun e => (e.1.toNat, e.2.1.toNat + 256 * e.2.2.toNat)

/-- The bytes of an Audio Up frame (section 11.1). -/
def audioUpBytes (handle : Nat) (mute : Bool) (seq : Byte) (count : Nat) (samples : List Sample) : List Byte :=
  [0x01] ++ byte2 (handle + if mute then 4096 else 0) ++ [seq] ++ byte1 count ++
    (if mute then [] else sampleBytes samples)

/-- Whether bytes are an Audio Up frame whose byte count is the one it declares (R27). -/
def IsAudioUp (bytes : List Byte) : Prop :=
  5 ≤ bytes.length ∧ byteAt bytes 0 = 0x01 ∧
    bytes.length = if (wordAt bytes 1).testBit 12 then 5 else 5 + 2 * byteAt bytes 4

/-- Whether bytes are a Link Status frame of its fixed length whose status is UP or DOWN (R27). -/
def IsLinkStatus (bytes : List Byte) : Prop :=
  bytes.length = 4 ∧ byteAt bytes 0 = 0x02 ∧ byteAt bytes 3 ≤ 1

/-- The newest 768 samples of a list, oldest first (R49). -/
def newest768 (xs : List Sample) : List Sample := xs.drop (xs.length - 768)

/-- A counter moved on by `n`, stopping at 65,535. -/
def counted (a n : Nat) : Nat := min 65535 (a + n)

/-- The causes of a departure from LIVE other than at a call end: LINK_LEFT_LIVE, and after it TALK_END for a TALKING link;
none for a record that was not LIVE (R15, R98). -/
def departureCauses (r : LinkRecord) (i : Fin 8) : List Cause :=
  match r.state, r.activity with
  | .live, .talking => [.linkLeftLive i, .talkEnd i]
  | .live, .quiet => [.linkLeftLive i]
  | _, _ => []

/-! ## Looking into the state -/

/-- Record `r` in slot `i` is the one that holds a handle: no lower slot holds it. -/
def State.Matches (s : State) (handle : Nat) (i : Fin 8) (r : LinkRecord) : Prop :=
  s.slots.get i = some r ∧ r.config.handle.toNat = handle ∧
    ∀ j < i, ∀ q, s.slots.get j = some q → q.config.handle.toNat ≠ handle

/-- No record holds a handle. -/
def State.NoMatch (s : State) (handle : Nat) : Prop :=
  ∀ i r, s.slots.get i = some r → r.config.handle.toNat ≠ handle

/-- No cue set is enabled, so that no cause fires anything. -/
def State.NoCueEnabled (s : State) : Prop := ∀ j, (s.cues.get j).enabled = false

/-- The targets after reset (R106). -/
def resetTarget : GainName → Nat
  | .level _ => 16384
  | .cell .uplink .far => 0
  | .cell .uplink (.voice _) => 16384
  | .cell (.down _) .far => 16384
  | .cell (.down s) (.voice t) => if s = t then 0 else 8192

/-- Every block at its reset values, by the tables and rules of its chapter. -/
structure State.AtResetValues (s : State) : Prop where
  control : s.iface = .idle ∧ s.busy = false ∧ ∀ t, s.transaction ≠ .taken t
  notices : ∀ k, s.notices.get k = false ∧ s.mask.get k = false
  linkChanges : ∀ i, s.linkChanges.get i = false
  seatChanges : ∀ i, s.seatChanges.get i = false
  slots : ∀ i, s.slots.get i = none
  radio : s.radio = ⟨0, 0, 0, 0, 0⟩ ∧ s.arbiter = 7 ∧ s.sending = none ∧
    ∀ buffer count, s.reception ≠ .receiving buffer count
  seats : ∀ i, s.seats.get i =
    { mode := .prefer .left, fadeLength := 8, returnHold := 50, stepSize := 1024
      voice := none, crossfade := none, stable := 0 }
  gains : ∀ name, s.gains.get? name =
    if name = .cell .uplink .far then none else some { current := 0, target := resetTarget name, step := 512 }
  ceiling : s.gains.ceiling = 2048
  engine : s.engine = .stopped ∧ s.pass = none ∧ s.ticks = 0 ∧ s.holdover = 0
  clips : ∀ o, s.clipOf o = ⟨false, 0⟩
  pcm : s.pcm.farEnd = [] ∧ s.pcm.uplink = [] ∧ s.pcm.side = .waiting ∧ s.pcm.lock = .unlocked ∧ s.pcm.run = 0 ∧
    s.pcm.seen = false ∧ s.pcm.b = 0 ∧ s.pcm.farEndSlips = 0 ∧ s.pcm.uplinkSlips = 0
  timers : ∀ i, s.timers.get i = { load := 1000, mode := .oneShot, source := .tick, state := .idle, count := 0 }
  cues : ∀ j, s.cues.get j =
    { cause := none, action := .none, rep := .always, chain := Bank.fill 4 false, notify := false
      enabled := false, fireCount := 0 }
  cueFault : s.cueFault = none

/-! ## Gains and cue sets in statements -/

/-- The gains `after` differ from `g` in the gain `name` alone, which has become `x`. -/
structure Gains.WritesOnly (g : Gains) (name : GainName) (x : Gain) (after : Gains) : Prop where
  named : after.get? name = some x
  others : ∀ other, other ≠ name → after.get? other = g.get? other
  ceiling : after.ceiling = g.ceiling

/-- The response body of a gain request: current, target and ramp step, two bytes each. -/
def gainBytes (x : Gain) : List Byte := byte2 x.current ++ byte2 x.target ++ byte2 x.step

/-- A SET CUE body behind its set index says this definition for set `j`, by the codes of section 11.2, and no test of R167
with BAD_VALUE applies to it. -/
structure CueSet.SaidBy (c : CueSet) (j : Fin 4) (cause operand action first second valueLow valueHigh rep notify : Byte)
    (members : List Byte) : Prop where
  cause : causeCode c.cause = cause.toNat ∧ causeOperand c.cause = operand.toNat
  action : c.action.code = action.toNat ∧ c.action.operandBytes = [first, second] ∧
    c.action.valueNat = valueLow.toNat + 256 * valueHigh.toNat
  target : ∀ g v, c.action = .setTarget g v → v ≤ 32767
  rep : c.rep.code = rep.toNat
  notify : notify.toNat = if c.notify then 1 else 0
  distinct : members.Nodup ∧ ∀ m ∈ members, m.toNat < 4 ∧ m.toNat ≠ j.val
  chain : ∀ k, c.chain.get k = true ↔ ∃ m ∈ members, m.toNat = k.val
  fresh : c.enabled = false ∧ c.fireCount = 0

/-- An action that asks a seat to prefer a side on which no link record stands (R166, SIDE_EMPTY). -/
def State.SideEmpty (s : State) (a : Action) : Prop :=
  ∃ seat side, a = .prefer seat side ∧
    ∀ i r, s.slots.get i = some r → ¬(r.config.seat = seat ∧ r.config.side = side)

/-- Timer `i` has source CASCADE and the timer below it is IDLE (R158). -/
def State.CascadeIdle (s : State) (i : Fin 4) : Prop :=
  (s.timers.get i).source = .cascade ∧ ∃ below : Fin 4, below.val + 1 = i.val ∧ (s.timers.get below).state = .idle

/-- Why an action faults as the part stands (R166). -/
inductive State.Faults (s : State) (a : Action) : FaultReason → Prop where
  | sideEmpty : s.SideEmpty a → State.Faults s a .sideEmpty
  | cascadeIdle (i : Fin 4) : a = .startTimer i → s.CascadeIdle i → State.Faults s a .cascadeIdle

/-- The part after set `j`, of which `c` is the record, performed its action: the fire count counted, a ONCE set disabled,
CUE set for a notifying set (R163). -/
def State.firedCounted (s : State) (j : Fin 4) (c : CueSet) : State :=
  { s with
    cues := s.cues.set j { c with fireCount := counted c.fireCount 1, enabled := c.enabled && c.rep == .always }
    notices := { s.notices with cue := c.notify || s.notices.cue } }

/-- The part after a fault of set `j`, of which `c` is the record (R166). -/
def State.faulted (s : State) (j : Fin 4) (c : CueSet) (reason : FaultReason) : State :=
  { s with
    cues := s.cues.set j { c with enabled := false }
    notices := { s.notices with cue := true }
    cueFault := some (s.cueFault.getD ⟨j, reason⟩) }

/-! ## What a tick, a call end, a pass start and a completion do to a record -/

/-- The record is PRIMING or LIVE. -/
def LinkRecord.Running (r : LinkRecord) : Prop := r.state = .priming ∨ r.state = .live

/-- The record after its entry to LOST (R18). -/
def LinkRecord.lostRecord (r : LinkRecord) : LinkRecord :=
  { r with
    state := .lost, jitter := [], downlink := [], expected := none, remaining := 0, starve := 0
    activity := .quiet, lastLevel := 0, talkRun := 0, hangCount := 0
    counters := { r.counters with losses := counted r.counters.losses 1 } }

/-- The record after a call end (R22). -/
def LinkRecord.standbyRecord (r : LinkRecord) : LinkRecord :=
  { r with
    state := .standby, jitter := [], downlink := [], expected := none, remaining := 0, starve := 0
    activity := .quiet, lastLevel := 0, talkRun := 0, hangCount := 0, belowLow := false }

/-- The record as newly admitted with its configuration (R8, R23). -/
def LinkRecord.renewedRecord (r : LinkRecord) : LinkRecord :=
  { config := r.config, state := .standby, expected := none, drift := 0, phase := 0, windowSum := 0
    windowCount := 0, starve := 0, remaining := 0, activity := .quiet, lastLevel := 0, talkRun := 0
    hangCount := 0, belowLow := false, lastBlock := none, downPosition := 0, heldSample := 0
    downSeq := 0, counters := ⟨0, 0, 0, 0, 0, 0, 0, 0, 0⟩, jitter := [], downlink := [] }

/-- The tick now due expires the record's supervision (R20). -/
def LinkRecord.Expiring (r : LinkRecord) : Prop := r.Running ∧ r.remaining = 1

/-- What a tick's supervision makes of a record (R20). -/
inductive LinkRecord.Supervised (r : LinkRecord) : LinkRecord → Prop where
  | expires : r.Expiring → LinkRecord.Supervised r r.lostRecord
  | counts : r.Running → 1 < r.remaining → LinkRecord.Supervised r { r with remaining := r.remaining - 1 }
  | kept : ¬(r.Running ∧ 0 < r.remaining) → LinkRecord.Supervised r r

/-- Timer `i` counts at a tick at which the timers below it expire or not (R155, R156): it is RUNNING, and its source is
TICK or the timer below it expires at the same instant. Its expiry is the count that leaves none. -/
inductive TimerExpires (ts : Bank 4 Timer) : Fin 4 → Prop where
  | tick (i : Fin 4) : (ts.get i).state = .running → (ts.get i).source = .tick → (ts.get i).count ≤ 1 → TimerExpires ts i
  | cascade (below i : Fin 4) : below.val + 1 = i.val → TimerExpires ts below → (ts.get i).state = .running →
      (ts.get i).source = .cascade → (ts.get i).count ≤ 1 → TimerExpires ts i

/-- A count event reaches the RUNNING timer `i` at a tick (R155). -/
def TimerCounts (ts : Bank 4 Timer) (i : Fin 4) : Prop :=
  (ts.get i).state = .running ∧
    ((ts.get i).source = .tick ∨ ∃ below : Fin 4, below.val + 1 = i.val ∧ TimerExpires ts below)

/-- What a tick makes of timer `i` (R155). -/
structure TimerTicks (ts : Bank 4 Timer) (i : Fin 4) (after : Timer) : Prop where
  reloads : TimerExpires ts i → (ts.get i).mode = .periodic → after = { ts.get i with count := (ts.get i).load }
  ends : TimerExpires ts i → (ts.get i).mode = .oneShot → after = { ts.get i with count := 0, state := .idle }
  counts : TimerCounts ts i → ¬TimerExpires ts i → after = { ts.get i with count := (ts.get i).count - 1 }
  waits : ¬TimerCounts ts i → after = ts.get i

/-- The port after a tick's lock test (R141, R142). -/
def PcmPort.afterTick (p : PcmPort) : PcmPort :=
  if p.seen then { p with seen := false }
  else if p.lock = .locked then { p with farEnd := [], uplink := [], side := .waiting, lock := .unlocked, run := 0 }
  else { p with run := 0 }

/-- `v` is the part after a tick's supervision, timers and lock test, which are all of the tick but the engine's own work,
and these are the causes they issue (R20, R142, R155). -/
structure State.Ticked (s v : State) (causes : List Cause) : Prop where
  free : ∀ i, s.slots.get i = none → v.slots.get i = none
  links : ∀ i r, s.slots.get i = some r → ∃ q, v.slots.get i = some q ∧ r.Supervised q
  linkChanges : ∀ i, v.linkChanges.get i = true ↔
    s.linkChanges.get i = true ∨ ∃ r, s.slots.get i = some r ∧ r.Expiring
  link : v.notices.link = true ↔ s.notices.link = true ∨ ∃ i r, s.slots.get i = some r ∧ r.Expiring
  timers : ∀ i, TimerTicks s.timers i (v.timers.get i)
  causes : ∀ c, c ∈ causes ↔
    (∃ i r, s.slots.get i = some r ∧ r.Expiring ∧ c ∈ departureCauses r i) ∨
    ∃ i, TimerExpires s.timers i ∧ c = .timer i
  rest : v = { s with
    slots := v.slots, linkChanges := v.linkChanges, notices := { s.notices with link := v.notices.link }
    timers := v.timers, pcm := s.pcm.afterTick }

/-- `w` is the part after a call end taken at `s`, without a response, and these are its causes (R22, R100, R118, R136,
R147, R148). -/
structure State.CallEnded (s w : State) (causes : List Cause) : Prop where
  slots : ∀ i, w.slots.get i = (s.slots.get i).map LinkRecord.standbyRecord
  linkChanges : ∀ i, w.linkChanges.get i = true ↔
    s.linkChanges.get i = true ∨ ∃ r, s.slots.get i = some r ∧ r.state ≠ .standby
  link : w.notices.link = true ↔ s.notices.link = true ∨ ∃ i r, s.slots.get i = some r ∧ r.state ≠ .standby
  seats : ∀ i, w.seats.get i = { s.seats.get i with voice := none, crossfade := none, stable := 0 }
  seatChanges : ∀ i, w.seatChanges.get i = true ↔ s.seatChanges.get i = true ∨ (s.seats.get i).voice ≠ none
  seat : w.notices.seat = true ↔ s.notices.seat = true ∨ ∃ i, (s.seats.get i).voice ≠ none
  gains : ∀ g, w.gains.get? g = (s.gains.get? g).map fun x => { x with current := 0 }
  ceiling : w.gains.ceiling = s.gains.ceiling
  causes : ∀ c, c ∈ causes ↔ ∃ i r, s.slots.get i = some r ∧ r.state = .live ∧ c = .linkLeftLive i
  rest : w = { s with
    slots := w.slots, linkChanges := w.linkChanges, seats := w.seats, seatChanges := w.seatChanges, gains := w.gains
    notices := { s.notices with clock := true, link := w.notices.link, seat := w.notices.seat }
    engine := .stopped, pass := none, ticks := 0, holdover := 0
    pcm := { s.pcm with farEnd := [], uplink := [], side := .waiting } }

/-- The record joins a pass's LIVE set: LIVE already, or PRIMING with its fill at its start level (R50, R121). -/
def LinkRecord.Joins (r : LinkRecord) : Prop :=
  r.state = .live ∨ (r.state = .priming ∧ r.config.startLevel ≤ r.jitter.length)

/-- The record once the priming test is done: a PRIMING record that passes has the values of R50. -/
def LinkRecord.primedRecord (r : LinkRecord) : LinkRecord :=
  if r.state = .priming then
    { r with
      state := .live, phase := 0, starve := 0, windowSum := 0, windowCount := 0, downPosition := 0, heldSample := 0
      activity := .quiet, lastLevel := 0, talkRun := 0, hangCount := 0 }
  else r

/-- Uplink position `k` of the pass that a record enters, in units of 2^−24 of a sample (R65). -/
def LinkRecord.positionAt (r : LinkRecord) (k : Nat) : Nat := r.phase + k * ((16777216 : Int) + r.drift).toNat

/-- The needed count of the pass that a record enters (R67). -/
def LinkRecord.needed (r : LinkRecord) : Nat := r.positionAt 63 / 2 ^ 24 + 2

/-- The supply leaves the record short and at its starve limit (R54, R55). -/
def LinkRecord.Starves (r : LinkRecord) : Prop := r.jitter.length < r.needed ∧ r.config.starveLimit ≤ r.starve + 1

/-- The record after its supply (R53, R54), the LOW_FILL flag written (R122), and at its starve limit re-primed (R55); the
drift window is not yet advanced. -/
inductive LinkRecord.Supplied (r : LinkRecord) : LinkRecord → Prop where
  | full : r.needed ≤ r.jitter.length →
      LinkRecord.Supplied r
        { r with
          belowLow := decide (r.jitter.length < r.config.lowMark)
          jitter := r.jitter.drop (r.positionAt 64 / 2 ^ 24), phase := r.positionAt 64 % 2 ^ 24, starve := 0 }
  | underrun : r.jitter.length < r.needed → r.starve + 1 < r.config.starveLimit →
      LinkRecord.Supplied r
        { r with
          belowLow := decide (r.jitter.length < r.config.lowMark)
          jitter := [], phase := 0, starve := r.starve + 1
          counters := { r.counters with underruns := counted r.counters.underruns 1 } }
  | starved : r.Starves →
      LinkRecord.Supplied r
        { r with
          belowLow := decide (r.jitter.length < r.config.lowMark)
          jitter := [], phase := 0, starve := r.starve + 1
          state := .priming, downlink := [], activity := .quiet, lastLevel := 0, talkRun := 0, hangCount := 0
          counters := { r.counters with
            underruns := counted r.counters.underruns 1
            reprimes := counted r.counters.reprimes 1 } }

/-- An integer held to an interval: the end of the interval on its side where it lies outside. -/
def heldTo (lo hi v : Int) : Int := if v < lo then lo else if hi < v then hi else v

/-- The adjustment of a drift update (R72). -/
def adjustment (sum startLevel loopShift : Nat) : Int :=
  heldTo (-512) 512 (((sum / 32 : Nat) - (startLevel : Int)) * 2 ^ (8 - loopShift))

/-- The record once the recorded fill is added to its drift window, with a drift update at the 32nd count (R71 to R73). -/
inductive LinkRecord.Windowed (r : LinkRecord) (fill : Nat) : LinkRecord → Prop where
  | gathers : r.windowCount < 31 →
      LinkRecord.Windowed r fill { r with windowSum := r.windowSum + fill, windowCount := r.windowCount + 1 }
  | updates (moved : Int) : 31 ≤ r.windowCount →
      moved = r.drift + adjustment (r.windowSum + fill) r.config.startLevel r.config.loopShift →
      LinkRecord.Windowed r fill
        { r with
          drift := heldTo (-16384) 16384 moved, windowSum := 0, windowCount := 0
          counters := { r.counters with
            driftLimits :=
              counted r.counters.driftLimits (if -16384 ≤ moved ∧ moved ≤ 16384 then 0 else 1) } }

/-- The causes of a pass start for the record in slot `i` (R50, R55, R122). -/
inductive LinkRecord.PassCause (r : LinkRecord) (i : Fin 8) : Cause → Prop where
  | live : r.state = .priming → LinkRecord.PassCause r i (.linkLive i)
  | lowFill : r.jitter.length < r.config.lowMark → r.belowLow = false → LinkRecord.PassCause r i (.lowFill i)
  | departs (c : Cause) : r.primedRecord.Starves → c ∈ departureCauses r.primedRecord i → LinkRecord.PassCause r i c

/-- The interpolated sample at a position of a list, the position in units of 2^−24 of a sample (R65, R66, R79). -/
def between (xs : List Sample) (p : Nat) : Int :=
  let low := (xs.getD (p / 2 ^ 24) 0).toInt
  let high := (xs.getD (p / 2 ^ 24 + 1) 0).toInt
  low + ((high - low) * ((p % 2 ^ 24 / 512 : Nat) : Int) + 16384) / 32768

/-- The activity, last level, talk-on run count and hang count after an update at a level, from those before it (R95 to
R97). -/
inductive LinkRecord.Judged (r : LinkRecord) (level : Nat) : LinkRecord → Prop where
  | firstLoud : r.activity = .quiet → r.config.talkOn ≤ level → r.talkRun = 0 →
      LinkRecord.Judged r level { r with lastLevel := level, talkRun := 1 }
  | starts : r.activity = .quiet → r.config.talkOn ≤ level → r.talkRun ≠ 0 →
      LinkRecord.Judged r level { r with lastLevel := level, activity := .talking, talkRun := 0, hangCount := 0 }
  | staysQuiet : r.activity = .quiet → level < r.config.talkOn →
      LinkRecord.Judged r level { r with lastLevel := level, talkRun := 0 }
  | staysTalking : r.activity = .talking → r.config.talkOff ≤ level →
      LinkRecord.Judged r level { r with lastLevel := level, hangCount := 0 }
  | hangs : r.activity = .talking → level < r.config.talkOff → r.hangCount < r.config.hang →
      LinkRecord.Judged r level { r with lastLevel := level, hangCount := r.hangCount + 1 }
  | ends : r.activity = .talking → level < r.config.talkOff → r.config.hang ≤ r.hangCount →
      LinkRecord.Judged r level { r with lastLevel := level, activity := .quiet, hangCount := 0 }

/-- The record in the pass's LIVE set, still LIVE, after a completion: its activity judged on its outputs, its downlink
resampler run over its seat's DOWN row to the outputs `ys`, those that fit kept in its downlink queue (R58, R78 to R81, R95,
R132). -/
structure LinkRecord.Served (r q : LinkRecord) (n : Snapshot) (l : PassLink) (ys : List Sample) : Prop where
  judged : ∃ j, r.Judged (((l.outputs.map fun y => y.toInt.natAbs).sum) / 64) j ∧ q =
    { j with
      downlink := r.downlink ++ ys.take (768 - r.downlink.length)
      downPosition := q.downPosition, heldSample := q.heldSample
      counters := { r.counters with
        downDropped := counted r.counters.downDropped (ys.length - (768 - r.downlink.length)) } }
  count : ∀ k, k < ys.length ↔ r.downPosition + k * ((16777216 : Int) - l.drift).toNat < 64 * 2 ^ 24
  outputs : ∀ k y, ys[k]? = some y →
    y.toInt = between (r.heldSample :: n.row (.down l.seat)) (r.downPosition + k * ((16777216 : Int) - l.drift).toNat)
  position : q.downPosition + 64 * 2 ^ 24 = r.downPosition + ys.length * ((16777216 : Int) - l.drift).toNat
  held : (n.row (.down l.seat))[63]? = some q.heldSample

/-- A sum reduced and saturated to an output sample (R127). -/
def outputValue (acc : Int) : Int := heldTo (-32768) 32767 ((acc + 8192) / 16384)

/-- A sum whose reduction is saturated (R127, its table). -/
def Saturates (acc : Int) : Prop := 536862720 ≤ acc ∨ acc ≤ -536879105

/-- A ramp update of one gain (R109). -/
def Gain.ramped (x : Gain) : Gain :=
  if x.current < x.target then { x with current := min x.target (x.current + x.step) }
  else if x.target < x.current then { x with current := max x.target (x.current - x.step) }
  else x

/-- `w` is the part after the completion of the pass with snapshot `n`, up to the arbiter's choice, and these are its causes
(R93, R96, R97, R109, R128, R130 to R132). -/
structure State.Completed (s : State) (n : Snapshot) (w : State) (causes : List Cause) : Prop where
  free : ∀ i, s.slots.get i = none → w.slots.get i = none
  untouched : ∀ i r, s.slots.get i = some r → r.state ≠ .live ∨ n.links.get i = none → w.slots.get i = some r
  served : ∀ i r l, s.slots.get i = some r → r.state = .live → n.links.get i = some l →
    ∃ q ys, w.slots.get i = some q ∧ r.Served q n l ys
  queue : w.notices.queue = true ↔ s.notices.queue = true ∨ ∃ i r l q ys,
    s.slots.get i = some r ∧ r.state = .live ∧ n.links.get i = some l ∧ r.Served q n l ys ∧
    768 < r.downlink.length + ys.length
  uplinkCall : s.engine = .call → w.pcm =
    { s.pcm with
      uplink := (s.pcm.uplink ++ n.row .uplink).drop ((s.pcm.uplink ++ n.row .uplink).length - 128)
      uplinkSlips := counted s.pcm.uplinkSlips ((s.pcm.uplink ++ n.row .uplink).length - 128) }
  uplinkElse : s.engine ≠ .call → w.pcm = s.pcm
  clipPass : ∀ o, (∃ m, m < 64 ∧ Saturates (n.acc o m)) →
    w.clipOf o = { flag := true, count := counted (s.clipOf o).count 1 }
  noClipPass : ∀ o, (∀ m, m < 64 → ¬Saturates (n.acc o m)) → w.clipOf o = s.clipOf o
  clip : w.notices.clip = true ↔ s.notices.clip = true ∨ ∃ o, (w.clipOf o).flag = true ∧ (s.clipOf o).flag = false
  gains : ∀ g, w.gains.get? g = (s.gains.get? g).map Gain.ramped
  ceiling : w.gains.ceiling = s.gains.ceiling
  crossfades : ∀ i, w.seats.get i = { s.seats.get i with
    crossfade := (s.seats.get i).crossfade.bind fun x => if x.k < x.n then some { x with k := x.k + 1 } else none }
  causes : ∀ c, c ∈ causes ↔
    (∃ o, (w.clipOf o).flag = true ∧ (s.clipOf o).flag = false ∧ c = .clip o) ∨
    (∃ i r q, s.slots.get i = some r ∧ w.slots.get i = some q ∧
      ((r.activity = .quiet ∧ q.activity = .talking ∧ c = .talkStart i) ∨
        (r.activity = .talking ∧ q.activity = .quiet ∧ c = .talkEnd i)))
  rest : w = { s with
    slots := w.slots, pcm := w.pcm, uplinkClip := w.uplinkClip, downClip := w.downClip, gains := w.gains
    seats := w.seats, pass := none
    notices := { s.notices with queue := w.notices.queue, clip := w.notices.clip } }

/-! ## Records in order -/

/-- A valid configuration (R3). -/
structure LinkConfig.Valid (c : LinkConfig) : Prop where
  handle : c.handle.toNat ≤ 0xEFF
  block : c.blockLength ∈ [40, 60, 80, 120, 160, 240]
  startLow : 66 + c.blockLength ≤ c.startLevel
  startHigh : c.startLevel + c.blockLength ≤ 768
  lowMark : c.lowMark ≤ c.startLevel
  supervision : 20 ≤ c.supervision ∧ c.supervision ≤ 2000
  loopShift : c.loopShift ≤ 6
  starveLimit : 1 ≤ c.starveLimit ∧ c.starveLimit ≤ 16
  talkOn : c.talkOn ≤ 32768
  talkOff : c.talkOff ≤ c.talkOn
  hang : c.hang ≤ 255

/-- Every counter of a record stops at 65,535 (R7). -/
structure LinkCounters.Bounded (c : LinkCounters) : Prop where
  accepted : c.accepted ≤ 65535
  concealed : c.concealed ≤ 65535
  stale : c.stale ≤ 65535
  overflow : c.overflow ≤ 65535
  underruns : c.underruns ≤ 65535
  reprimes : c.reprimes ≤ 65535
  losses : c.losses ≤ 65535
  driftLimits : c.driftLimits ≤ 65535
  downDropped : c.downDropped ≤ 65535

/-- Every field of a record lies in its range (sections 1.2 and 1.3, R6, R47, R54, R57, R63, R71). -/
structure LinkRecord.InRange (r : LinkRecord) : Prop where
  config : r.config.Valid
  drift : -16384 ≤ r.drift ∧ r.drift ≤ 16384
  phase : r.phase < 2 ^ 24
  windowCount : r.windowCount ≤ 31
  windowSum : r.windowSum ≤ 768 * r.windowCount
  starve : r.starve ≤ 16
  liveStarve : r.state = .live → r.starve ≤ 15
  remaining : r.remaining ≤ 2000
  lastLevel : r.lastLevel ≤ 32768
  talkRun : r.talkRun ≤ 1
  hangCount : r.hangCount ≤ 255
  lastBlock : ∀ b, r.lastBlock = some b → b.length = r.config.blockLength
  downPosition : r.downPosition ≤ 2 ^ 24 + 16384
  counters : r.counters.Bounded
  jitter : r.jitter.length ≤ 768
  downlink : r.downlink.length ≤ 768

/-- The fields of a record agree with its state (R5, R19, R47, R60, R96, R97, R98). -/
structure LinkRecord.InState (r : LinkRecord) : Prop where
  expected : r.expected = none ↔ r.state = .standby ∨ r.state = .lost
  idle : r.state = .standby ∨ r.state = .lost → r.jitter = [] ∧ r.remaining = 0 ∧ r.starve = 0
  counting : r.state = .priming ∨ r.state = .live → 0 < r.remaining
  notLive : r.state ≠ .live →
    r.downlink = [] ∧ r.activity = .quiet ∧ r.lastLevel = 0 ∧ r.talkRun = 0 ∧ r.hangCount = 0
  quiet : r.activity = .quiet → r.hangCount = 0
  talking : r.activity = .talking → r.talkRun = 0

/-- A link's part of a snapshot: 64 outputs, and a pass drift in the range of a drift word (R63, R64, R124). -/
def PassLink.InRange (l : PassLink) : Prop :=
  l.outputs.length = 64 ∧ -16384 ≤ l.drift ∧ l.drift ≤ 16384

/-- Every record and every snapshotted link is in order. -/
structure State.LinksInOrder (s : State) : Prop where
  range : ∀ i r, s.slots.get i = some r → r.InRange
  state : ∀ i r, s.slots.get i = some r → r.InState
  pass : ∀ n, s.pass = some n → ∀ i l, n.links.get i = some l → l.InRange

/-- The laws of the table (R2), and that a record LIVE while a pass is in flight is in that pass's LIVE set with its seat
and side (R57, R132). -/
structure State.TableInOrder (s : State) : Prop where
  handles : ∀ i j q r, i ≠ j → s.slots.get i = some q → s.slots.get j = some r → q.config.handle ≠ r.config.handle
  sides : ∀ i j q r, i ≠ j → s.slots.get i = some q → s.slots.get j = some r →
    ¬(q.config.seat = r.config.seat ∧ q.config.side = r.config.side)
  liveInPass : ∀ n i r, s.pass = some n → s.slots.get i = some r → r.state = .live →
    ∃ l, n.links.get i = some l ∧ l.seat = r.config.seat ∧ l.side = r.config.side

/-- The engine, the port and what they rule over agree (R24, R100, R110, R119, R137 to R139, R141, R147, R151, R152). -/
structure State.EngineInOrder (s : State) : Prop where
  callLocked : s.engine = .call → s.pcm.lock = .locked
  stoppedPass : s.engine = .stopped → s.pass = none
  stoppedLinks : s.engine = .stopped → ∀ i r, s.slots.get i = some r →
    r.state = .standby ∧ r.jitter = [] ∧ r.downlink = []
  stoppedGains : s.engine = .stopped → ∀ g x, s.gains.get? g = some x → x.current = 0
  stoppedSeats : s.engine = .stopped → ∀ i,
    (s.seats.get i).voice = none ∧ (s.seats.get i).crossfade = none ∧ (s.seats.get i).stable = 0
  inactivePort : s.engine ≠ .call → s.pcm.farEnd = [] ∧ s.pcm.uplink = [] ∧ s.pcm.side = .waiting
  farEnd : s.pcm.farEnd.length ≤ 128
  uplink : s.pcm.uplink.length ≤ 128
  run : s.pcm.run ≤ 63
  lockedRun : s.pcm.lock = .locked → s.pcm.run = 0
  boundary : s.pcm.b ≤ 63
  ticks : s.ticks ≤ 4
  holdover : s.holdover < 2000
  noHoldover : s.engine ≠ .holdover → s.holdover = 0

/-- A ramped gain in its range (R104). -/
def Gain.InRange (x : Gain) : Prop := x.current ≤ 32767 ∧ x.target ≤ 32767 ∧ 1 ≤ x.step ∧ x.step ≤ 32767

/-- Every gain in its range, and every own-voice cell held to the sidetone ceiling (R104, R107). -/
structure Gains.InOrder (g : Gains) : Prop where
  range : ∀ name x, g.get? name = some x → x.InRange
  ceiling : g.ceiling ≤ 8192
  own : ∀ name x, name.isOwn = true → g.get? name = some x → x.current ≤ g.ceiling ∧ x.target ≤ g.ceiling

/-- A timer's load in its range, its state and its count agreeing (R154). -/
structure Timer.InOrder (t : Timer) : Prop where
  load : 1 ≤ t.load ∧ t.load ≤ 65535
  count : t.count ≤ 65535
  idle : t.state = .idle ↔ t.count = 0

/-- A seat record in order: ranges (R84), a crossfade that leads to the voice (R91), no count in a FIXED mode (R88). -/
structure SeatRecord.InOrder (r : SeatRecord) : Prop where
  fadeLength : r.fadeLength ∈ [1, 2, 4, 8, 16, 32]
  returnHold : r.returnHold ≤ 255
  stepSize : 1 ≤ r.stepSize ∧ r.stepSize ≤ 4096
  stable : r.stable ≤ 256
  fixed : ∀ side, r.mode = .fixed side → r.stable = 0
  crossfade : ∀ x, r.crossfade = some x →
    r.voice = some x.new ∧ x.old ≠ x.new ∧ 1 ≤ x.k ∧ x.k ≤ x.n ∧ x.n ∈ [1, 2, 4, 8, 16, 32]

/-- A cue set in order: no action on the fixed cell, a target in range (R103, R161, R167), a fire count that stops at
65,535, and not a member of its own chain. -/
structure CueSet.InOrder (c : CueSet) (own : Fin 4) : Prop where
  cell : c.action.namesFixed = false
  target : ∀ g v, c.action = .setTarget g v → v ≤ 32767
  fireCount : c.fireCount ≤ 65535
  chain : c.chain.get own = false

/-- The gains, timers, seats and cue sets are in order. -/
structure State.RecordsInOrder (s : State) : Prop where
  gains : s.gains.InOrder
  timers : ∀ i, (s.timers.get i).InOrder
  firstTimer : (s.timers.get 0).source = .tick
  seats : ∀ i, (s.seats.get i).InOrder
  cues : ∀ j, (s.cues.get j).InOrder j

/-- The control link, the receive buffer, the notices and the counters of the ports are in order (R25, R46, R128, R153, R172
to R174, R176 to R178, R181, R183). -/
structure State.ReportsInOrder (s : State) : Prop where
  request : ∀ h, s.iface = .executing h → 1 ≤ h.count ∧ h.bytes.length = min h.count 64
  response : ∀ r, s.iface = .responsePending r → r.bytes.length ≤ 128
  taken : ∀ t, s.transaction = .taken t → s.phase = .ready ∧ t.bytes.length = min t.count 64 ∧
    (t.kind = none → t.count = 0)
  reading : ∀ t r, s.transaction = .taken t → t.sends = some r → s.iface = .responsePending r
  receiving : ∀ buffer count, s.reception = .receiving buffer count →
    s.phase = .ready ∧ buffer.length = min count 515
  linkChanges : ∀ i, s.linkChanges.get i = true → s.notices.link = true
  seatChanges : ∀ i, s.seatChanges.get i = true → s.notices.seat = true
  cueFault : s.cueFault.isSome = true → s.notices.cue = true
  clips : ∀ o, (s.clipOf o).count ≤ 65535
  radio : s.radio.formatErrors ≤ 65535 ∧ s.radio.unmatched ≤ 65535 ∧ s.radio.idleDiscards ≤ 65535 ∧
    s.radio.statusOnly ≤ 65535 ∧ s.radio.framesSent ≤ 65535
  slips : s.pcm.farEndSlips ≤ 65535 ∧ s.pcm.uplinkSlips ≤ 65535

end Sys2Proof.Machine
end

