-- ==== Sys2Proof/Certificates/Slice0/Obligations.lean ====
section
/-! DEFINITION. The statements about the part, for the provers; OBLIGATIONS.json lists them. A result written
`(…).handleGroup causes` is the part as the event's work leaves it, handed to the Cue Unit with the event's causes; what the
Cue Unit does with them is stated under "Cue sets". -/

open Sys2Proof Sys2Proof.Machine

/-! ## The queue of commands, reset and start-up -/

/-- A step takes the command at the front of the queue and runs it with the rest of the queue; on an empty queue the part
idles (the model's own queue, notes/assumptions/5.md). -/
def Obligations.TheFrontCommandRuns : Prop :=
  (∀ (c : Instr) (rest : List Instr) (s : State), s.pending = c :: rest →
    step s = exec c { s with pending := rest }) ∧
  ∀ s : State, s.pending = [] → step s = .next s

/-- Every command completes in every state, and none touches the queue of waiting commands. -/
def Obligations.EveryCommandCompletesAndKeepsTheQueue : Prop :=
  ∀ (c : Instr) (s : State), ∃ t, exec c s = .next t ∧ t.pending = s.pending

/-- A fall of RESET_N puts every block at its reset values, whatever the part was doing: a transaction in progress is
abandoned and the bytes of a frame being received are discarded. While RESET_N is low the status byte is 0, ATTN and PVALID_OUT
are low and MISO sends 0, also in a transaction begun then, and no tick, frame sync, frame or transaction is taken (R25, R172,
R183). The model's own choices in it: the waiting commands stay (notes/assumptions/5.md); CS_N and PVALID keep their levels, and
the record of the bytes MISO has sent goes on (notes/assumptions/6.md and 7.md). -/
def Obligations.ResetPinFallHoldsThePartInReset : Prop :=
  State.reset.AtResetValues ∧
  (∀ s : State, s.phase = .inReset → s.misoByte = 0 ∧
    exec .csNFall s = .next { s with transaction := .ignored, miso := [] }) ∧
  ∀ s : State, ∃ t, exec .resetNFall s = .next t ∧ t.phase = .inReset ∧ t.AtResetValues ∧
    t.pending = s.pending ∧ t.statusByte = 0 ∧ t.attn = false ∧ t.pvalidOut = false ∧ t.miso = s.miso ∧
    t.transaction = (if s.transaction = .idle then .idle else .ignored) ∧
    t.reception = (if s.reception = .waiting then .waiting else .ignoring) ∧
    exec .tick t = .next t ∧ (∀ x u, exec (.frameSync x u) t = .next t) ∧
    (∀ row : Shift → Instr, row = .writeTransaction ∨ row = .readTransaction → ∀ mosi ends,
      exec (row ⟨mosi, ends⟩) t = .next (if s.transaction = .idle then t else t.passedBy mosi.length ends)) ∧
    ∀ row : List Byte → Bool → Instr, row = .audioUp ∨ row = .linkStatus → ∀ bytes ends,
      exec (row bytes ends) t = .next { t with reception := if ends then .waiting else .ignoring }

/-- The taking of a RESET request puts every block at its reset values and begins start-up, with no response (R184); a
transaction in progress is abandoned and a frame being received discarded (R25, R172). RESET_N's rise begins start-up; the
first tick after start-up began ends it, sets READY and reaches no other block (R183). The model's own choices in it: the
waiting commands stay (notes/assumptions/5.md); CS_N and PVALID keep their levels (notes/assumptions/6.md and 7.md); a rise with
RESET_N high already, and an end of start-up outside start-up, are no events (notes/assumptions/4.md). -/
def Obligations.ResetRequestAndStartUp : Prop :=
  (∀ (s : State) (tag : Byte), s.Holds 0x20 tag [] →
    ∃ t, exec .reset s = .next t ∧ t.phase = .startUp ∧ t.AtResetValues ∧ t.pending = s.pending ∧
      t.statusByte = 0 ∧ t.attn = false ∧ t.pvalidOut = false ∧ t.misoByte = 0 ∧
      t.transaction = (if s.transaction = .idle then .idle else .ignored) ∧
      t.reception = (if s.reception = .waiting then .waiting else .ignoring)) ∧
  (∀ s : State, s.phase = .inReset → exec .resetNRise s = .next { s with phase := .startUp }) ∧
  (∀ s : State, s.phase = .startUp →
    exec .startUpEnd s = .next { s with phase := .ready } ∧ exec .tick s = .next { s with phase := .ready }) ∧
  (∀ s : State, s.phase ≠ .inReset → exec .resetNRise s = .next s) ∧
  ∀ s : State, s.phase ≠ .startUp → exec .startUpEnd s = .next s

/-- Before READY the part takes no request, no frame, no frame sync and no event of a pass: every command but those of the
reset pin, the tick that ends start-up, the transactions and the frames leaves the part as it is. A frame's bytes and its end
touch nothing but the reception, which is waiting again after the end, and a frame whose PVALID rises now is ignored. A
transaction's bytes and its end touch nothing but the transaction and what MISO sends, which is 0 (R25, R172, R183, R184; the
frame and transaction rows, notes/assumptions/6.md and 7.md). -/
def Obligations.NothingIsTakenBeforeReady : Prop :=
  ∀ s : State, s.phase ≠ .ready →
    (∀ c : Instr, c ≠ .resetNFall → c ≠ .resetNRise → c ≠ .startUpEnd → c ≠ .tick → c ≠ .csNFall →
      (∀ bytes ends, c ≠ .writeTransaction ⟨bytes, ends⟩ ∧ c ≠ .readTransaction ⟨bytes, ends⟩ ∧ c ≠ .audioUp bytes ends ∧
        c ≠ .linkStatus bytes ends) → exec c s = .next s) ∧
    (∀ row : List Byte → Bool → Instr, row = .audioUp ∨ row = .linkStatus → ∀ bytes,
      exec (row bytes true) s = .next { s with reception := .waiting } ∧
      (s.reception = .waiting → exec (row bytes false) s = .next { s with reception := .ignoring })) ∧
    ∀ row : Shift → Instr, row = .writeTransaction ∨ row = .readTransaction → ∀ mosi ends,
      s.transaction ≠ .idle → ∃ transaction, (ends = true → transaction = .idle) ∧
        exec (row ⟨mosi, ends⟩) s =
          .next { s with transaction, miso := s.miso ++ List.replicate mosi.length 0 }

/-! ## Transactions and the framing of requests -/

/-- A fall of CS_N fixes the status byte of that instant, READY, and the response that a READ will send; the status byte
carries READY in bit 7, RESPONSE PENDING in bit 6, BUSY in bit 5 and the top-notice code in bits 2 to 0. Before READY it is 0,
and the transaction is ignored (R172, R173, R174, R177, R183). A fall begins the record of the bytes MISO sends anew, and where
CS_N was low already a new transaction (the model's choice, notes/assumptions/7.md). -/
def Obligations.TransactionStartFixesTheStatusByte : Prop :=
  ∀ s : State,
    let pending : Option Response :=
      match s.iface with
      | .responsePending r => some r
      | _ => none
    (s.phase ≠ .ready → s.statusByte = 0 ∧
      exec .csNFall s = .next { s with transaction := .ignored, miso := [] }) ∧
    (s.phase = .ready → ∃ (status : Byte) (t : State),
      exec .csNFall s = .next t ∧ t.Began status pending ∧ t.misoByte = status ∧
      t = { s with transaction := t.transaction, miso := [] } ∧
      status.getLsbD 7 = true ∧
      (status.getLsbD 6 = true ↔ ∃ r, s.iface = .responsePending r) ∧
      status.getLsbD 5 = s.busy ∧ status.getLsbD 4 = false ∧ status.getLsbD 3 = false ∧
      status.toNat % 8 = s.topNotice)

/-- A transaction is judged at its end by its type byte. A WRITE, type 0x01: with the interface IDLE the first 64 message bytes
are held and BUSY is cleared, else they are dropped and BUSY is set; with no message byte nothing is held and BUSY stays (R174).
Any other type but READ's, and no byte at all, is a status poll, which changes nothing. MISO sends the status byte and then 0; a
transaction that the part ignores, begun before READY or abandoned by a reset, sends 0 and its end has no effect; until the
rise of CS_N nothing but the transaction and what MISO sends moves, and bytes shifted in parts are as those shifted together
(R172). Either row shifts the bytes it names, and with CS_N high does nothing (the model's reading, notes/assumptions/7.md). -/
def Obligations.WriteTransactionHoldsOrDropsTheRequest : Prop :=
  ∀ row : Shift → Instr, row = .writeTransaction ∨ row = .readTransaction →
    (∀ s mosi ends, s.transaction = .idle → exec (row ⟨mosi, ends⟩) s = .next s) ∧
    (∀ s mosi ends, s.transaction = .ignored → exec (row ⟨mosi, ends⟩) s = .next (s.passedBy mosi.length ends)) ∧
    (∀ s mosi, ∃ transaction sent, exec (row ⟨mosi, false⟩) s = .next { s with transaction, miso := s.miso ++ sent }) ∧
    (∀ s t first rest ends, exec (row ⟨first, false⟩) s = .next t →
      exec (row ⟨rest, ends⟩) t = exec (row ⟨first ++ rest, ends⟩) s) ∧
    ∀ s status sends, s.Began status sends →
      let ended (bytes : List Byte) : State :=
        { s with transaction := .idle, miso := s.miso ++ status :: List.replicate bytes.length 0 }
      exec (row ⟨[], true⟩) s = .next { s with transaction := .idle } ∧
      (∀ type bytes, type ≠ 0x01 → type ≠ 0x02 → exec (row ⟨type :: bytes, true⟩) s = .next (ended bytes)) ∧
      exec (row ⟨[0x01], true⟩) s = .next (ended []) ∧
      ∀ bytes, bytes ≠ [] →
        (s.iface = .idle → exec (row ⟨0x01 :: bytes, true⟩) s = .next
          { ended bytes with iface := .executing { bytes := bytes.take 64, count := bytes.length }, busy := false }) ∧
        (s.iface ≠ .idle → exec (row ⟨0x01 :: bytes, true⟩) s = .next { ended bytes with busy := true })

/-- The end of a READ transaction, type 0x02: behind the status byte it sent the response message from its first byte and then
0, or a length of 0 and then 0, whatever the host shifted in meanwhile; a response sent whole is read, and one cut short stays
pending. BUSY and the notices are kept (R177). The fourth byte of the message is the status code of section 11.2. Either row
shifts the bytes it names (the model's reading, notes/assumptions/7.md). -/
def Obligations.ReadTransactionReadsAWholeResponse : Prop :=
  StatusCodes ∧
  ∀ row : Shift → Instr, row = .writeTransaction ∨ row = .readTransaction →
    ∀ (s : State) (status : Byte) (ignored : List Byte),
      (s.Began status none → exec (row ⟨0x02 :: ignored, true⟩) s = .next
        { s with transaction := .idle, miso := s.miso ++ status :: List.replicate ignored.length 0 }) ∧
      ∀ r, s.Began status (some r) →
        r.bytes = [BitVec.ofNat 8 (3 + r.body.length), r.code, r.tag, BitVec.ofNat 8 r.status.code] ++ r.body ∧
        (ignored.length < r.bytes.length → exec (row ⟨0x02 :: ignored, true⟩) s = .next
          { s with transaction := .idle, miso := s.miso ++ status :: r.bytes.take ignored.length }) ∧
        (r.bytes.length ≤ ignored.length → exec (row ⟨0x02 :: ignored, true⟩) s = .next
          { s with
            transaction := .idle, iface := .idle
            miso := s.miso ++ status :: (r.bytes ++ List.replicate (ignored.length - r.bytes.length) 0) })

/-- A held request whose framing is wrong is answered with BAD_REQUEST, its code and tag as received or 0, and an empty
body, and changes nothing else (R175). FRAMING REFUSAL leaves one whose framing is right as it is, for its owner (the model's
choice, notes/assumptions/3.md). -/
def Obligations.WrongFramingIsAnsweredWithBadRequest : Prop :=
  ∀ (s : State) (h : HeldRequest), s.phase = .ready → s.iface = .executing h →
    (h.wellFramed = true → exec .framingRefusal s = .next s) ∧
    (h.wellFramed = false →
      exec .framingRefusal s = .next (s.responded (h.bytes.getD 1 0) (h.bytes.getD 2 0) .badRequest []))

/-- What a WRITE of bytes `w` leaves in the request buffer passes the framing checks exactly when at most 64 bytes were
written, they are a length that counts the bytes behind it, a code and a tag of the catalogue and a body, and the body has
a length that section 11.2 lists for the code (R175). -/
def Obligations.FramingAcceptsExactlyTheLengthsOfTheTables : Prop :=
  ∀ w : List Byte,
    ({ bytes := w.take 64, count := w.length } : HeldRequest).wellFramed = true ↔
      w.length ≤ 64 ∧ ∃ code tag body, w = requestBytes code tag body ∧ AllowedBody code body

/-- A request row takes the held request of its own code and no other: where none is held it does nothing, and where one is
held whose framing is wrong it is answered with BAD_REQUEST and nothing else happens (R175; the model's reading of the
rows, notes/assumptions/3.md). -/
def Obligations.RequestRowsTakeOnlyTheirOwnRequest : Prop :=
  ∀ (c : Instr) (code : Byte), requestCode c = some code → ∀ s : State, s.phase = .ready →
    ((∀ h, s.iface = .executing h → h.bytes[1]? ≠ some code) → exec c s = .next s) ∧
    ∀ h, s.iface = .executing h → h.bytes[1]? = some code → h.wellFramed = false →
      exec c s = .next (s.responded code (h.bytes.getD 2 0) .badRequest [])

/-! ## Notices and IDENTIFY -/

/-- READ NOTICES answers flags, mask, top-notice code, change flags and cue-fault flag and changes nothing; SET NOTICE MASK
replaces the mask whole; CLEAR NOTICES answers the flags as they stood and clears the named kinds with what goes with them;
a set with an unknown kind or a kind twice is refused (R180, R181). The flag bytes have bit (code − 1) for each kind, bit i
for link i and bit s for seat s (section 11.2). -/
def Obligations.NoticeRequestsReadMaskAndClear : Prop :=
  (∀ (f : NoticeFlags) (k : NoticeKind), f.byte.getLsbD (k.code - 1) = f.get k ∧ f.byte.toNat < 64) ∧
  (∀ (b : Bank 8 Bool) (i : Fin 8), (linkFlagsByte b).getLsbD i.val = b.get i) ∧
  (∀ (b : Bank 4 Bool) (i : Fin 4), (seatFlagsByte b).getLsbD i.val = b.get i ∧ (seatFlagsByte b).toNat < 16) ∧
  ∀ (s : State) (tag : Byte),
    let fault : Byte := if s.cueFault.isSome then 1 else 0
    (s.Holds 0x1A tag [] →
      exec .readNotices s = .next (s.responded 0x1A tag .ok
        [s.notices.byte, s.mask.byte, BitVec.ofNat 8 s.topNotice, linkFlagsByte s.linkChanges,
          seatFlagsByte s.seatChanges, fault])) ∧
    ∀ body : List Byte, body.length ≤ 6 →
      let named (k : NoticeKind) : Bool := body.any fun b => b.toNat == k.code
      ((¬body.Nodup ∨ ∃ b ∈ body, b.toNat = 0 ∨ 6 < b.toNat) →
        (s.Holds 0x1C tag body → exec .setNoticeMask s = .next (s.responded 0x1C tag .badValue [])) ∧
        (s.Holds 0x1B tag body → exec .clearNotices s = .next (s.responded 0x1B tag .badValue []))) ∧
      (body.Nodup → (∀ b ∈ body, 1 ≤ b.toNat ∧ b.toNat ≤ 6) →
        (s.Holds 0x1C tag body → ∃ mask : NoticeFlags, (∀ k, mask.get k = named k) ∧
          exec .setNoticeMask s = .next ({ s with mask }.responded 0x1C tag .ok [mask.byte])) ∧
        (s.Holds 0x1B tag body → ∃ notices : NoticeFlags, (∀ k, notices.get k = (s.notices.get k && !named k)) ∧
          exec .clearNotices s = .next
            ({ s with
                notices
                linkChanges := if named .link then Bank.fill 8 false else s.linkChanges
                seatChanges := if named .seat then Bank.fill 4 false else s.seatChanges
                cueFault := if named .cue then none else s.cueFault }.responded 0x1B tag .ok
              [s.notices.byte, linkFlagsByte s.linkChanges, seatFlagsByte s.seatChanges, fault])))

/-- The kinds have the codes 1 to 6 in the order CLOCK, LINK, SEAT, CUE, CLIP, QUEUE; the top-notice code is that of the
unmasked set flag of the lowest code, or 0; ATTN is high exactly while the part is READY and a response is pending or an
unmasked flag is set (R178, R179). -/
def Obligations.AttnAndTopNoticeFollowTheUnmaskedFlags : Prop :=
  (NoticeKind.clock.code = 1 ∧ NoticeKind.link.code = 2 ∧ NoticeKind.seat.code = 3 ∧ NoticeKind.cue.code = 4 ∧
    NoticeKind.clip.code = 5 ∧ NoticeKind.queue.code = 6) ∧
  ∀ s : State,
    let shown (k : NoticeKind) : Prop := s.notices.get k = true ∧ s.mask.get k = false
    (s.topNotice = 0 ↔ ∀ k, ¬shown k) ∧
    (∀ k, s.topNotice = k.code ↔ shown k ∧ ∀ j, j.code < k.code → ¬shown j) ∧
    (s.attn = true ↔ s.phase = .ready ∧ ((∃ r, s.iface = .responsePending r) ∨ ∃ k, shown k))

/-- IDENTIFY answers OK with family code 0x3D, part code 428, revision 1, 8 links and 4 seats, in every mix engine state,
and changes nothing (R182). -/
def Obligations.IdentifyAnswersTheFiveFields : Prop :=
  ∀ (s : State) (tag : Byte), s.Holds 0x1F tag [] →
    ∃ body, exec .identify s = .next (s.responded 0x1F tag .ok body) ∧ body.length = 6 ∧
      byteAt body 0 = 0x3D ∧ wordAt body 1 = 428 ∧ byteAt body 3 = 1 ∧ byteAt body 4 = 8 ∧ byteAt body 5 = 4

/-! ## Link records -/

/-- Entries that name each field at most once write exactly the fields they name; a configuration is accepted exactly when
every field lies in its range and the three relations hold, and then it is the numbers given; the start level not named is
66 + 2 × block length, at most 768 − block length, and the other fields not named have the defaults of section 1.2 (R3,
R4). -/
def Obligations.NamedFieldsDefaultsAndValidity : Prop :=
  (∀ (c : RawConfig) (entries : List (Nat × Nat)), (entries.map fun e => e.1).Nodup →
    c.writeAll entries =
      { handle := fieldNamed entries 1 c.handle
        seat := fieldNamed entries 2 c.seat
        side := fieldNamed entries 3 c.side
        blockLength := fieldNamed entries 4 c.blockLength
        startLevel := fieldNamed entries 5 c.startLevel
        lowMark := fieldNamed entries 6 c.lowMark
        supervision := fieldNamed entries 7 c.supervision
        loopShift := fieldNamed entries 8 c.loopShift
        starveLimit := fieldNamed entries 9 c.starveLimit
        talkOn := fieldNamed entries 10 c.talkOn
        talkOff := fieldNamed entries 11 c.talkOff
        hang := fieldNamed entries 12 c.hang }) ∧
  (∀ (raw : RawConfig) (c : LinkConfig), raw.check = some c ↔ c.raw = raw ∧ c.Valid) ∧
  (∀ handle seat side block : Nat, RawConfig.defaults handle seat side block =
    { handle, seat, side, blockLength := block
      startLevel := min (66 + 2 * block) (768 - block), lowMark := 66, supervision := 200, loopShift := 3
      starveLimit := 4, talkOn := 1024, talkOff := 512, hang := 25 }) ∧
  [40, 60, 80, 120, 160, 240].map (fun b => (RawConfig.defaults 0 0 0 b).startLevel) = [146, 186, 226, 306, 386, 528]

/-- ADMIT LINK answers the first refusal that applies, in the order BAD_VALUE, TABLE_FULL, DUPLICATE_HANDLE, SEAT_TAKEN;
else it fills the lowest FREE slot with a record of the named fields and the defaults, its running part at the admission
values, and sets the slot's change flag and LINK, in every mix engine state (R1, R8). -/
def Obligations.AdmitLinkFillsTheLowestFreeSlot : Prop :=
  ∀ (s : State) (tag lo hi seat side block : Byte) (entries : List (Byte × Byte × Byte)), entries.length ≤ 8 →
    s.Holds 0x01 tag ([lo, hi, seat, side, block] ++ entryBytes entries) →
    let named := entryValues entries
    let wrong := ¬(named.map fun e => e.1).Nodup ∨ ∃ e ∈ named, e.1 < 5 ∨ 12 < e.1
    let asked := (RawConfig.defaults (lo.toNat + 256 * hi.toNat) seat.toNat side.toNat block.toNat).writeAll named
    (wrong ∨ asked.check = none → exec .admitLink s = .next (s.responded 0x01 tag .badValue [])) ∧
    ∀ c, ¬wrong → asked.check = some c →
      let full := ∀ i, s.slots.get i ≠ none
      let held := ∃ i r, s.slots.get i = some r ∧ r.config.handle = c.handle
      let taken := ∃ i r, s.slots.get i = some r ∧ r.config.seat = c.seat ∧ r.config.side = c.side
      (full → exec .admitLink s = .next (s.responded 0x01 tag .tableFull [])) ∧
      (¬full → held → exec .admitLink s = .next (s.responded 0x01 tag .duplicateHandle [])) ∧
      (¬full → ¬held → taken → exec .admitLink s = .next (s.responded 0x01 tag .seatTaken [])) ∧
      ∀ i, s.slots.get i = none → (∀ j < i, s.slots.get j ≠ none) → ¬held → ¬taken →
        exec .admitLink s = .next
          ({ s with
              slots := s.slots.set i (some
                { config := c, state := .standby, expected := none, drift := 0, phase := 0, windowSum := 0
                  windowCount := 0, starve := 0, remaining := 0, activity := .quiet, lastLevel := 0, talkRun := 0
                  hangCount := 0, belowLow := false, lastBlock := none, downPosition := 0, heldSample := 0
                  downSeq := 0, counters := ⟨0, 0, 0, 0, 0, 0, 0, 0, 0⟩, jitter := [], downlink := [] })
              linkChanges := s.linkChanges.set i true
              notices := { s.notices with link := true } }.responded 0x01 tag .ok [BitVec.ofNat 8 i.val])

/-- AMEND LINK answers the first refusal that applies, in the order of R10; else it writes every named field at once, makes
the last received block absent where the block length changes, and changes nothing else (R6, R10). -/
def Obligations.AmendLinkWritesTheNamedFields : Prop :=
  ∀ (s : State) (tag index : Byte) (entries : List (Byte × Byte × Byte)), 1 ≤ entries.length → entries.length ≤ 11 →
    s.Holds 0x02 tag (index :: entryBytes entries) →
    let named := entryValues entries
    let wrong := ¬(named.map fun e => e.1).Nodup ∨ ∃ e ∈ named, e.1 < 2 ∨ 12 < e.1
    (7 < index.toNat → exec .amendLink s = .next (s.responded 0x02 tag .badIndex [])) ∧
    ∀ i : Fin 8, i.val = index.toNat →
      (s.slots.get i = none → exec .amendLink s = .next (s.responded 0x02 tag .noRecord [])) ∧
      ∀ r, s.slots.get i = some r →
        let asked := r.config.raw.writeAll named
        (wrong ∨ asked.check = none → exec .amendLink s = .next (s.responded 0x02 tag .badValue [])) ∧
        ∀ c, ¬wrong → asked.check = some c →
          let reseats := c.seat ≠ r.config.seat ∨ c.side ≠ r.config.side
          let moves := reseats ∨ c.blockLength ≠ r.config.blockLength
          let running := r.state = .priming ∨ r.state = .live
          let taken := ∃ j q, j ≠ i ∧ s.slots.get j = some q ∧ q.config.seat = c.seat ∧ q.config.side = c.side
          (moves → running → exec .amendLink s = .next (s.responded 0x02 tag .wrongState [])) ∧
          (¬(moves ∧ running) → reseats → taken → exec .amendLink s = .next (s.responded 0x02 tag .seatTaken [])) ∧
          (¬(moves ∧ running) → ¬(reseats ∧ taken) → exec .amendLink s = .next
            ({ s with
                slots := s.slots.set i (some
                  { r with
                    config := c
                    lastBlock := if c.blockLength = r.config.blockLength then r.lastBlock else none })
              }.responded 0x02 tag .ok []))

/-- READ LINK answers 67 bytes from which every field of a record in its ranges can be read back at its offset, and changes
nothing; an index above 7 is refused with BAD_INDEX and a FREE slot with NO_RECORD (R12, the READ LINK response body and
the codes of section 11.2). -/
def Obligations.ReadLinkTellsEveryField : Prop :=
  SideCodes ∧ LinkStateCodes ∧ ActivityCodes ∧
  ∀ (s : State) (tag index : Byte), s.Holds 0x03 tag [index] →
    (7 < index.toNat → exec .readLink s = .next (s.responded 0x03 tag .badIndex [])) ∧
    ∀ i : Fin 8, i.val = index.toNat →
      (s.slots.get i = none → exec .readLink s = .next (s.responded 0x03 tag .noRecord [])) ∧
      ∀ r, s.slots.get i = some r → ∃ b, exec .readLink s = .next (s.responded 0x03 tag .ok b) ∧ b.length = 67 ∧
        (r.InRange →
          byteAt b 0 = i.val ∧ byteAt b 1 = r.state.code ∧ wordAt b 2 = r.config.handle.toNat ∧
          byteAt b 4 = r.config.seat.val ∧ byteAt b 5 = r.config.side.code ∧ byteAt b 6 = r.config.blockLength ∧
          wordAt b 7 = r.config.startLevel ∧ wordAt b 9 = r.config.lowMark ∧ wordAt b 11 = r.config.supervision ∧
          byteAt b 13 = r.config.loopShift ∧ byteAt b 14 = r.config.starveLimit ∧ wordAt b 15 = r.config.talkOn ∧
          wordAt b 17 = r.config.talkOff ∧ byteAt b 19 = r.config.hang ∧
          (byteAt b 20).testBit 0 = r.expected.isSome ∧ (byteAt b 20).testBit 1 = r.lastBlock.isSome ∧
          (byteAt b 20).testBit 2 = r.belowLow ∧ (byteAt b 20).testBit 3 = (r.activity == .talking) ∧
          byteAt b 20 < 16 ∧
          byteAt b 21 = (r.expected.getD 0).toNat ∧ byteAt b 22 = (r.lastBlock.getD []).length ∧
          (BitVec.ofNat 16 (wordAt b 23)).toInt = r.drift ∧ wordAt b 25 + 65536 * byteAt b 27 = r.phase ∧
          wordAt b 28 = r.windowSum ∧ byteAt b 30 = r.windowCount ∧ byteAt b 31 = r.starve ∧
          wordAt b 32 = r.remaining ∧ wordAt b 34 = r.lastLevel ∧ byteAt b 36 = r.talkRun ∧
          byteAt b 37 = r.hangCount ∧ wordAt b 38 + 65536 * wordAt b 40 = r.downPosition ∧
          BitVec.ofNat 16 (wordAt b 42) = r.heldSample ∧ byteAt b 44 = r.downSeq.toNat ∧
          wordAt b 45 = r.counters.accepted ∧ wordAt b 47 = r.counters.concealed ∧ wordAt b 49 = r.counters.stale ∧
          wordAt b 51 = r.counters.overflow ∧ wordAt b 53 = r.counters.underruns ∧
          wordAt b 55 = r.counters.reprimes ∧ wordAt b 57 = r.counters.losses ∧
          wordAt b 59 = r.counters.driftLimits ∧ wordAt b 61 = r.counters.downDropped ∧
          wordAt b 63 = r.jitter.length ∧ wordAt b 65 = r.downlink.length)

/-- FIND LINK answers BAD_VALUE for a handle above 0xEFF, else the index and the state of the record that holds the handle,
or NO_RECORD where none does, and changes nothing (R13, the link state codes of section 11.2). -/
def Obligations.FindLinkAnswersIndexAndState : Prop :=
  LinkStateCodes ∧
  ∀ (s : State) (tag lo hi : Byte), s.Holds 0x04 tag [lo, hi] →
    let handle := lo.toNat + 256 * hi.toNat
    (0xEFF < handle → exec .findLink s = .next (s.responded 0x04 tag .badValue [])) ∧
    (handle ≤ 0xEFF → s.NoMatch handle → exec .findLink s = .next (s.responded 0x04 tag .noRecord [])) ∧
    ∀ i r, handle ≤ 0xEFF → s.Matches handle i r →
      exec .findLink s = .next (s.responded 0x04 tag .ok [BitVec.ofNat 8 i.val, BitVec.ofNat 8 r.state.code])

/-- RETIRE LINK makes the slot FREE with the record's queues, in any state of the record, sets the slot's change flag and
LINK, and for a LIVE record hands LINK_LEFT_LIVE, then TALK_END for a TALKING one, to the Cue Unit (R14). -/
def Obligations.RetireLinkFreesTheSlot : Prop :=
  ∀ (s : State) (tag index : Byte), s.Holds 0x05 tag [index] →
    (7 < index.toNat → exec .retireLink s = .next (s.responded 0x05 tag .badIndex [])) ∧
    ∀ i : Fin 8, i.val = index.toNat →
      (s.slots.get i = none → exec .retireLink s = .next (s.responded 0x05 tag .noRecord [])) ∧
      ∀ r, s.slots.get i = some r → exec .retireLink s = .next
        (({ s with
            slots := s.slots.set i none
            linkChanges := s.linkChanges.set i true
            notices := { s.notices with link := true } }.responded 0x05 tag .ok []).handleGroup (departureCauses r i))

/-! ## The radio packet port -/

/-- Until the fall of PVALID a frame's bytes go into the receive buffer, which stores 515 of them, and touch nothing else; bytes
clocked in parts are as those clocked in together, and the frame is judged at its arrival by what other events have left. The
receive checks in their order: a frame that is no Audio Up or Link Status frame of the length it declares is a format error; one
whose handle no record holds is unmatched; a matched Audio Up frame while STOPPED is an idle discard, and one whose sample count
is not the record's block length a format error. Each counts once and changes nothing else. A high period of PVALID without a
byte is no frame, and a frame whose PVALID rose before READY, or during which the part was reset, is discarded and not counted
(R25 to R30). Either row takes the bytes it names, of whatever kind, with PVALID's rise before them where it was low (the
model's reading, notes/assumptions/6.md). -/
def Obligations.ReceiveChecksCountAndDiscard : Prop :=
  ∀ row : List Byte → Bool → Instr, row = .audioUp ∨ row = .linkStatus →
    (∀ s bytes, ∃ reception, exec (row bytes false) s = .next { s with reception }) ∧
    (∀ s t first rest ends, exec (row first false) s = .next t →
      exec (row rest ends) t = exec (row (first ++ rest) ends) s) ∧
    (∀ s bytes, s.phase ≠ .ready → s.reception = .waiting →
      exec (row bytes false) s = .next { s with reception := .ignoring } ∧ exec (row bytes true) s = .next s) ∧
    (∀ s bytes, s.reception = .ignoring →
      exec (row bytes false) s = .next s ∧ exec (row bytes true) s = .next { s with reception := .waiting }) ∧
    (∀ s, s.reception = .waiting → exec (row [] true) s = .next s) ∧
    (∀ s bytes, s.phase = .ready → s.reception = .waiting →
      exec (row bytes false) s = .next { s with reception := .receiving (bytes.take 515) bytes.length }) ∧
    (∀ s begun rest, s.phase = .ready → s.reception = .receiving (begun.take 515) begun.length →
      exec (row rest true) s = exec (row (begun ++ rest) true) { s with reception := .waiting }) ∧
    ∀ (s : State) (bytes : List Byte), s.phase = .ready → s.reception = .waiting → bytes ≠ [] →
      let handle := wordAt bytes 1 % 4096
      (¬IsAudioUp bytes → ¬IsLinkStatus bytes → exec (row bytes true) s = .next
        { s with radio := { s.radio with formatErrors := counted s.radio.formatErrors 1 } }) ∧
      (IsAudioUp bytes ∨ IsLinkStatus bytes → s.NoMatch handle → exec (row bytes true) s = .next
        { s with radio := { s.radio with unmatched := counted s.radio.unmatched 1 } }) ∧
      ∀ i r, s.Matches handle i r →
        (IsAudioUp bytes → s.engine = .stopped → exec (row bytes true) s = .next
          { s with radio := { s.radio with idleDiscards := counted s.radio.idleDiscards 1 } }) ∧
        (IsAudioUp bytes → s.engine ≠ .stopped → byteAt bytes 4 ≠ r.config.blockLength →
          exec (row bytes true) s = .next
            { s with radio := { s.radio with formatErrors := counted s.radio.formatErrors 1 } })

/-- An Audio Up frame of a record's block length that passes the checks, in CALL or HOLDOVER. For a STANDBY or LOST record
it is the first frame: the record becomes PRIMING with the frame's block behind what its queue holds. For a PRIMING or LIVE
record n frames ahead of the expected one, 0 to 15, n concealment blocks, the last received block shifted right by 1, 2, …,
n, and the frame's block are written as one write. A write keeps the newest 768 samples, counts the rest, and sets QUEUE
for them; the expected sequence number, the supervision countdown, the counters and, for MUTE clear, the last received block
are renewed; nothing else changes (R31 to R35, R38, R49). -/
def Obligations.AcceptedFramesWriteTheJitterQueue : Prop :=
  ∀ (s : State) (i : Fin 8) (r : LinkRecord) (mute : Bool) (seq : Byte) (samples : List Sample),
    s.phase = .ready → s.reception = .waiting → s.engine ≠ .stopped → s.Matches r.config.handle.toNat i r →
    samples.length = r.config.blockLength → r.config.blockLength ≤ 255 →
    let frame := audioUpBytes r.config.handle.toNat mute seq r.config.blockLength samples
    let block := if mute then List.replicate r.config.blockLength 0 else samples
    let written (n : Nat) : List Sample := (List.range n).flatMap (fun j => match r.lastBlock with
      | some last => last.map fun x => BitVec.ofInt 16 (x.toInt / 2 ^ (j + 1))
      | none => List.replicate r.config.blockLength 0) ++ block
    let after (n : Nat) : LinkRecord :=
      { r with
        jitter := newest768 (r.jitter ++ written n)
        expected := some (seq + 1)
        remaining := r.config.supervision
        lastBlock := if mute then r.lastBlock else some samples
        counters := { r.counters with
          accepted := counted r.counters.accepted 1
          concealed := counted r.counters.concealed n
          overflow := counted r.counters.overflow ((r.jitter ++ written n).length - 768) } }
    let queue (n : Nat) : Bool := s.notices.queue || decide (768 < (r.jitter ++ written n).length)
    ((r.state = .standby ∨ r.state = .lost) → exec (.audioUp frame true) s = .next
      { s with
        slots := s.slots.set i (some
          { after 0 with
            state := .priming
            counters := { (after 0).counters with concealed := r.counters.concealed } })
        linkChanges := s.linkChanges.set i true
        notices := { s.notices with link := true, queue := queue 0 } }) ∧
    ∀ e n, (r.state = .priming ∨ r.state = .live) → r.expected = some e → (seq - e).toNat = n → n ≤ 15 → exec (.audioUp frame true) s = .next
        { s with
          slots := s.slots.set i (some (after n))
          notices := { s.notices with queue := queue n } }

/-- A frame 16 to 127 ahead of the expected one is a resync: the queue holds the frame's block alone, nothing counted as
overflow; a LIVE record becomes PRIMING, QUIET and with an empty downlink queue, with its change flag, LINK and the causes
of its departure; QUEUE is set in either state; starve count, drift word and re-primes stay (R36). -/
def Obligations.ResyncFlushesAndPrimes : Prop :=
  ∀ (s : State) (i : Fin 8) (r : LinkRecord) (e : Byte) (mute : Bool) (seq : Byte) (samples : List Sample),
    s.phase = .ready → s.reception = .waiting → s.engine ≠ .stopped → s.Matches r.config.handle.toNat i r →
    samples.length = r.config.blockLength → r.config.blockLength ≤ 255 → r.counters.overflow ≤ 65535 →
    r.expected = some e → 16 ≤ (seq - e).toNat → (seq - e).toNat ≤ 127 →
    let frame := audioUpBytes r.config.handle.toNat mute seq r.config.blockLength samples
    let after : LinkRecord :=
      { r with
        jitter := if mute then List.replicate r.config.blockLength 0 else samples
        expected := some (seq + 1)
        remaining := r.config.supervision
        lastBlock := if mute then r.lastBlock else some samples
        counters := { r.counters with accepted := counted r.counters.accepted 1 } }
    (r.state = .priming → exec (.audioUp frame true) s = .next
      { s with
        slots := s.slots.set i (some after)
        notices := { s.notices with queue := true } }) ∧
    (r.state = .live → exec (.audioUp frame true) s = .next
      ({ s with
        slots := s.slots.set i (some
          { after with
            state := .priming, downlink := [], activity := .quiet, lastLevel := 0, talkRun := 0, hangCount := 0 })
        linkChanges := s.linkChanges.set i true
        notices := { s.notices with link := true, queue := true } }.handleGroup
        (departureCauses r i)))

/-- A frame 128 to 255 ahead of the expected one is stale: it is discarded, the stale counter goes on by 1, stopping at
65,535, and nothing else changes, neither queue, expected number, last received block, state nor countdown, and no notice is
set (R37). -/
def Obligations.StaleFramesAreOnlyCounted : Prop :=
  ∀ (s : State) (i : Fin 8) (r : LinkRecord) (e : Byte) (mute : Bool) (seq : Byte) (samples : List Sample),
    s.phase = .ready → s.reception = .waiting → s.engine ≠ .stopped → s.Matches r.config.handle.toNat i r →
    samples.length = r.config.blockLength → r.config.blockLength ≤ 255 →
    (r.state = .priming ∨ r.state = .live) → r.expected = some e → 128 ≤ (seq - e).toNat →
    exec (.audioUp (audioUpBytes r.config.handle.toNat mute seq r.config.blockLength samples) true) s = .next
      { s with slots := s.slots.set i (some
        { r with counters := { r.counters with stale := counted r.counters.stale 1 } }) }

/-- A matched Link Status frame: DOWN moves a PRIMING or LIVE record to LOST with every effect of R18, in every mix engine
state; UP, and DOWN for a STANDBY or LOST record, are counted as status-only and do nothing else (R18, R40, R41). -/
def Obligations.LinkStatusDownLosesTheLink : Prop :=
  ∀ (s : State) (i : Fin 8) (r : LinkRecord) (lo hi status : Byte), s.phase = .ready → s.reception = .waiting →
    status.toNat ≤ 1 → s.Matches ((lo.toNat + 256 * hi.toNat) % 4096) i r →
    ((status = 1 ∨ r.state = .standby ∨ r.state = .lost) → exec (.linkStatus [0x02, lo, hi, status] true) s = .next
      { s with radio := { s.radio with statusOnly := counted s.radio.statusOnly 1 } }) ∧
    (status = 0 → (r.state = .priming ∨ r.state = .live) → exec (.linkStatus [0x02, lo, hi, status] true) s = .next
      ({ s with
        slots := s.slots.set i (some
          { r with
            state := .lost, jitter := [], downlink := [], expected := none, remaining := 0, starve := 0
            activity := .quiet, lastLevel := 0, talkRun := 0, hangCount := 0
            counters := { r.counters with losses := counted r.counters.losses 1 } })
        linkChanges := s.linkChanges.set i true
        notices := { s.notices with link := true } }.handleGroup
        (departureCauses r i)))

/-- A write to a jitter queue keeps the newest 768 samples of the old contents and the new ones together, in their order,
and counts the samples discarded; a write to a downlink queue keeps what the queue holds, adds the new samples that fit and
counts those dropped from the end; a write loses samples exactly when it would pass 768 (R49, R58). -/
def Obligations.QueuesKeepTheNewestAndTheOldestSamples : Prop :=
  ∀ (r : LinkRecord) (xs : List Sample),
    (∃ lost kept, r.jitter ++ xs = lost ++ kept ∧ kept.length = min 768 (r.jitter.length + xs.length) ∧
      r.writeJitter xs =
        { r with
          jitter := kept
          counters := { r.counters with overflow := counted r.counters.overflow lost.length } } ∧
      (r.jitterOverflows xs.length = true ↔ lost ≠ [])) ∧
    (r.downlink.length ≤ 768 →
      ∃ added dropped, xs = added ++ dropped ∧
        (r.downlink ++ added).length = min 768 (r.downlink.length + xs.length) ∧
        r.writeDownlink xs =
          { r with
            downlink := r.downlink ++ added
            counters := { r.counters with downDropped := counted r.counters.downDropped dropped.length } } ∧
        (r.downlinkOverflows xs.length = true ↔ dropped ≠ []))

/-- The end of an Audio Down transmission counts it; the arbiter then serves the first ready link after its pointer, modulo
8: a block leaves the link's downlink queue and becomes the frame under transmission, the link's downlink sequence number
goes on by 1, and the pointer is the link's index; with no link ready the transmit side stays idle and the pointer is kept
(R42 to R44, R46). -/
def Obligations.TheArbiterServesTheNextReadyLink : Prop :=
  ∀ (s : State) (f : DownFrame), s.phase = .ready → s.sending = some f →
    let ready (i : Fin 8) : Prop :=
      ∃ r, s.slots.get i = some r ∧ r.state = .live ∧ r.config.blockLength ≤ r.downlink.length
    let sent : State :=
      { s with sending := none, radio := { s.radio with framesSent := counted s.radio.framesSent 1 } }
    ((∀ i, ¬ready i) → exec .audioDownComplete s = .next sent) ∧
    ∀ (k : Fin 8) (r : LinkRecord), (∀ j < k, ¬ready (s.arbiter + 1 + j)) → ready (s.arbiter + 1 + k) →
      s.slots.get (s.arbiter + 1 + k) = some r →
      exec .audioDownComplete s = .next
        { sent with
          arbiter := s.arbiter + 1 + k
          sending := some
            { link := s.arbiter + 1 + k, handle := r.config.handle, seq := r.downSeq
              samples := r.downlink.take r.config.blockLength }
          slots := s.slots.set (s.arbiter + 1 + k) (some
            { r with downlink := r.downlink.drop r.config.blockLength, downSeq := r.downSeq + 1 }) }

/-! ## Seats -/

/-- SET SEAT answers BAD_INDEX or BAD_VALUE, else writes its four fields and nothing else; a change of the mode sets the
preferred-stable count to 0 (R85, R92). -/
def Obligations.SetSeatWritesTheFourFields : Prop :=
  [SeatMode.fixed .left, .fixed .right, .prefer .left, .prefer .right].map SeatMode.code = [0, 1, 2, 3] ∧
  ∀ (s : State) (tag seat mode fade holdLo holdHi stepLo stepHi : Byte),
    s.Holds 0x06 tag [seat, mode, fade, holdLo, holdHi, stepLo, stepHi] →
    let hold := holdLo.toNat + 256 * holdHi.toNat
    let stepSize := stepLo.toNat + 256 * stepHi.toNat
    let wrong := 3 < mode.toNat ∨ fade.toNat ∉ [1, 2, 4, 8, 16, 32] ∨ 255 < hold ∨ stepSize = 0 ∨ 4096 < stepSize
    (3 < seat.toNat → exec .setSeat s = .next (s.responded 0x06 tag .badIndex [])) ∧
    (seat.toNat ≤ 3 → wrong → exec .setSeat s = .next (s.responded 0x06 tag .badValue [])) ∧
    ∀ (i : Fin 4) (m : SeatMode), i.val = seat.toNat → m.code = mode.toNat → ¬wrong →
      exec .setSeat s = .next
        ({ s with
            seats := s.seats.set i
              { s.seats.get i with
                mode := m, fadeLength := fade.toNat, returnHold := hold, stepSize := stepSize
                stable := if m = (s.seats.get i).mode then (s.seats.get i).stable else 0 }
          }.responded 0x06 tag .ok [])

/-- READ SEAT answers 20 bytes: the seat's record, and for each side the index, state and activity of the link record that
holds it, or 0xFF, 0 and 0; it changes nothing (R17, R86, the READ SEAT body and the codes of section
11.2). -/
def Obligations.ReadSeatTellsTheRecordAndItsSides : Prop :=
  SeatModeCodes ∧ SideCodes ∧ LinkStateCodes ∧ ActivityCodes ∧
  ∀ (s : State) (tag seat : Byte), s.Holds 0x07 tag [seat] →
    (3 < seat.toNat → exec .readSeat s = .next (s.responded 0x07 tag .badIndex [])) ∧
    ∀ i : Fin 4, i.val = seat.toNat → ∃ b, exec .readSeat s = .next (s.responded 0x07 tag .ok b) ∧ b.length = 20 ∧
      ((s.seats.get i).InOrder →
        let r := s.seats.get i
        byteAt b 0 = i.val ∧ byteAt b 1 = r.mode.code ∧ byteAt b 2 = r.fadeLength ∧ byteAt b 3 = r.returnHold ∧
        wordAt b 4 = r.stepSize ∧ wordAt b 12 = r.stable ∧
        (r.voice = none → byteAt b 6 = 0xFF) ∧ (∀ side, r.voice = some side → byteAt b 6 = side.code) ∧
        (r.crossfade = none → ∀ k, 7 ≤ k → k ≤ 11 → byteAt b k = 0) ∧
        ∀ x, r.crossfade = some x → byteAt b 7 = 1 ∧ byteAt b 8 = x.old.code ∧ byteAt b 9 = x.new.code ∧
          byteAt b 10 = x.k ∧ byteAt b 11 = x.n) ∧
      ∀ (side : Side) (offset : Nat), (side = .left ∧ offset = 14 ∨ side = .right ∧ offset = 17) →
        ((∀ j r, s.slots.get j = some r → ¬(r.config.seat = i ∧ r.config.side = side)) →
          byteAt b offset = 0xFF ∧ byteAt b (offset + 1) = 0 ∧ byteAt b (offset + 2) = 0) ∧
        ∀ j r, s.slots.get j = some r → r.config.seat = i → r.config.side = side →
          (∀ k < j, ∀ q, s.slots.get k = some q → ¬(q.config.seat = i ∧ q.config.side = side)) →
          byteAt b offset = j.val ∧ byteAt b (offset + 1) = r.state.code ∧ byteAt b (offset + 2) = r.activity.code

/-! ## Gains -/

/-- SET GAIN, FADE, CUT and READ GAIN refuse a designator of no output or source with BAD_VALUE and the cell (UPLINK, FAR)
with BAD_CELL; every other designator names one of the 29 ramped gains. READ GAIN answers the gain, its own-voice mark and
the sidetone ceiling and changes nothing (R102, R103, R111, R116, the designators of section 11.2). -/
def Obligations.DesignatorsNameGainsAndReadGain : Prop :=
  (∀ g : GainName, g.isOwn = true ↔ ∃ seat, g = .cell (.down seat) (.voice seat)) ∧
  (∀ g : GainName, g.codes = match g with
    | .cell .uplink .far => [0, 0]
    | .cell .uplink (.voice t) => [0, BitVec.ofNat 8 (t.val + 1)]
    | .cell (.down d) .far => [BitVec.ofNat 8 (d.val + 1), 0]
    | .cell (.down d) (.voice t) => [BitVec.ofNat 8 (d.val + 1), BitVec.ofNat 8 (t.val + 1)]
    | .level .uplink => [0, 0xFF]
    | .level (.down d) => [BitVec.ofNat 8 (d.val + 1), 0xFF]) ∧
  ∀ (s : State) (tag output source : Byte),
    let unknown := 4 < output.toNat ∨ (4 < source.toNat ∧ source ≠ 0xFF)
    let refuses (c : Instr) (code : Byte) (more : List Byte) : Prop :=
      s.Holds code tag ([output, source] ++ more) →
        (unknown → exec c s = .next (s.responded code tag .badValue [])) ∧
        (output = 0 → source = 0 → exec c s = .next (s.responded code tag .badCell []))
    (∀ more, more.length = 2 ∨ more.length = 4 → refuses .setGain 0x08 more) ∧
    refuses .fade 0x09 [] ∧ refuses .cut 0x0A [] ∧ refuses .readGain 0x0C [] ∧
    (¬unknown → ¬(output = 0 ∧ source = 0) → ∃ g x, g.codes = [output, source] ∧ s.gains.get? g = some x) ∧
    ∀ g x, g.codes = [output, source] → s.gains.get? g = some x → s.Holds 0x0C tag [output, source] →
      exec .readGain s = .next (s.responded 0x0C tag .ok
        (gainBytes x ++ [if g.isOwn then 1 else 0] ++ byte2 s.gains.ceiling))

/-- SET GAIN refuses a target or a given ramp step out of its range; else it writes the target, held to the sidetone ceiling
for an own-voice cell, and the ramp step where one is given, keeps the current and every other gain, and answers the gain as
stored (R107, R111, R112). -/
def Obligations.SetGainWritesTargetAndStep : Prop :=
  ∀ (s : State) (tag : Byte) (g : GainName) (x : Gain) (low high : Byte) (given : Option (Byte × Byte)),
    s.gains.get? g = some x →
    s.Holds 0x08 tag (g.codes ++ [low, high] ++ match given with
      | some p => [p.1, p.2]
      | none => []) →
    let target := low.toNat + 256 * high.toNat
    let ramp := given.map fun p => p.1.toNat + 256 * p.2.toNat
    let wrong := 32767 < target ∨ ∃ r, ramp = some r ∧ (r = 0 ∨ 32767 < r)
    let stored : Gain :=
      { x with target := if g.isOwn then min target s.gains.ceiling else target, step := ramp.getD x.step }
    (wrong → exec .setGain s = .next (s.responded 0x08 tag .badValue [])) ∧
    (¬wrong → ∃ after, s.gains.WritesOnly g stored after ∧
      exec .setGain s = .next ({ s with gains := after }.responded 0x08 tag .ok (gainBytes stored)))

/-- FADE sets a gain's target to 0; CUT sets its current and its target to 0; STEP GAIN moves the target of a seat's DOWN
level by the seat's step size, stopping at 0 and 32,767, and refuses a seat above 3 and a direction that is neither; every
other gain is kept, and the answer is the gain as stored (R113 to R115). -/
def Obligations.FadeCutAndStepGain : Prop :=
  (∀ (s : State) (tag : Byte) (g : GainName) (x : Gain), s.gains.get? g = some x →
    (s.Holds 0x09 tag g.codes → ∃ after, s.gains.WritesOnly g { x with target := 0 } after ∧
      exec .fade s = .next ({ s with gains := after }.responded 0x09 tag .ok (gainBytes { x with target := 0 }))) ∧
    (s.Holds 0x0A tag g.codes → ∃ after, s.gains.WritesOnly g { x with current := 0, target := 0 } after ∧
      exec .cut s = .next
        ({ s with gains := after }.responded 0x0A tag .ok (gainBytes { x with current := 0, target := 0 })))) ∧
  ∀ (s : State) (tag seat direction : Byte), s.Holds 0x0B tag [seat, direction] →
    (3 < seat.toNat → exec .stepGain s = .next (s.responded 0x0B tag .badIndex [])) ∧
    (seat.toNat ≤ 3 → 1 < direction.toNat → exec .stepGain s = .next (s.responded 0x0B tag .badValue [])) ∧
    ∀ (i : Fin 4) (x : Gain), i.val = seat.toNat → s.gains.get? (.level (.down i)) = some x →
      let up : Gain := { x with target := min 32767 (x.target + (s.seats.get i).stepSize) }
      let down : Gain := { x with target := x.target - (s.seats.get i).stepSize }
      (direction = 0 → ∃ after, s.gains.WritesOnly (.level (.down i)) up after ∧
        exec .stepGain s = .next ({ s with gains := after }.responded 0x0B tag .ok (gainBytes up))) ∧
      (direction = 1 → ∃ after, s.gains.WritesOnly (.level (.down i)) down after ∧
        exec .stepGain s = .next ({ s with gains := after }.responded 0x0B tag .ok (gainBytes down)))

/-- SET SIDETONE CEILING refuses a value above 8,192; else it stores it, and where it is lower than the old ceiling it holds
the current and the target of each own-voice cell to it; every other gain is kept (R108). -/
def Obligations.SidetoneCeilingClampsTheOwnVoiceCells : Prop :=
  ∀ (s : State) (tag low high : Byte), s.Holds 0x0D tag [low, high] →
    let c := low.toNat + 256 * high.toNat
    (8192 < c → exec .setSidetoneCeiling s = .next (s.responded 0x0D tag .badValue [])) ∧
    (c ≤ 8192 → ∃ after : Gains, after.ceiling = c ∧
      (∀ g x, s.gains.get? g = some x → after.get? g = some
        (if g.isOwn = true ∧ c < s.gains.ceiling then
          { x with current := min x.current c, target := min x.target c }
        else x)) ∧
      exec .setSidetoneCeiling s = .next ({ s with gains := after }.responded 0x0D tag .ok [low, high]))

/-! ## Interval timers -/

/-- LOAD TIMER writes load, mode and source and keeps state and count, or refuses with BAD_INDEX or BAD_VALUE; START TIMER
starts a count from the load, or refuses with BAD_INDEX, or with WRONG_STATE a CASCADE timer above an IDLE one; STOP TIMER
makes the timer IDLE with count 0; READ TIMER answers the record, by the codes of section 11.2, and changes nothing (R157 to
R159). -/
def Obligations.TimerRequestsLoadStartStopAndRead : Prop :=
  TimerCodes ∧
  (∀ (s : State) (tag index low high mode source : Byte), s.Holds 0x0E tag [index, low, high, mode, source] →
    let load := low.toNat + 256 * high.toNat
    let wrong := load = 0 ∨ 1 < mode.toNat ∨ 1 < source.toNat ∨ (source = 1 ∧ index = 0)
    (3 < index.toNat → exec .loadTimer s = .next (s.responded 0x0E tag .badIndex [])) ∧
    ∀ i : Fin 4, i.val = index.toNat →
      (wrong → exec .loadTimer s = .next (s.responded 0x0E tag .badValue [])) ∧
      (¬wrong → exec .loadTimer s = .next
        ({ s with
            timers := s.timers.set i
              { s.timers.get i with
                load := load
                mode := if mode = 0 then .oneShot else .periodic
                source := if source = 0 then .tick else .cascade } }.responded 0x0E tag .ok []))) ∧
  ∀ (s : State) (tag index : Byte),
    let refused (c : Instr) (code : Byte) : Prop :=
      s.Holds code tag [index] → 3 < index.toNat → exec c s = .next (s.responded code tag .badIndex [])
    refused .startTimer 0x0F ∧ refused .stopTimer 0x10 ∧ refused .readTimer 0x11 ∧
    ∀ i : Fin 4, i.val = index.toNat →
      (s.Holds 0x0F tag [index] →
        (s.CascadeIdle i → exec .startTimer s = .next (s.responded 0x0F tag .wrongState [])) ∧
        (¬s.CascadeIdle i → exec .startTimer s = .next
          ({ s with
              timers := s.timers.set i { s.timers.get i with state := .running, count := (s.timers.get i).load }
            }.responded 0x0F tag .ok []))) ∧
      (s.Holds 0x10 tag [index] → exec .stopTimer s = .next
        ({ s with
            timers := s.timers.set i { s.timers.get i with state := .idle, count := 0 } }.responded 0x10 tag .ok [])) ∧
      (s.Holds 0x11 tag [index] → ∃ b, exec .readTimer s = .next (s.responded 0x11 tag .ok b) ∧ b.length = 7 ∧
        ((s.timers.get i).InOrder →
          wordAt b 0 = (s.timers.get i).load ∧ wordAt b 2 = (s.timers.get i).count ∧
          byteAt b 4 = (s.timers.get i).mode.code ∧ byteAt b 5 = (s.timers.get i).source.code ∧
          byteAt b 6 = (s.timers.get i).state.code))

/-! ## Cue sets -/

/-- SET CUE refuses an index above 3 with BAD_INDEX, a body that says no definition with BAD_VALUE, and a gain action on the
cell (UPLINK, FAR) with BAD_CELL; else it writes the whole definition, with the set disabled and its fire count 0, and keeps
the fault record (R167, the codes of section 11.2). ENABLE CUE refuses with FAULT_PENDING while the cue-fault flag is set,
else enables; DISABLE CUE disables, whatever the flag is (R168). That a byte which the cause or the action does not take must
be 0, else BAD_VALUE, is the model's reading (notes/assumptions/11.md). -/
def Obligations.SetEnableAndDisableCue : Prop :=
  CauseCodes ∧ ActionCodes ∧ SideCodes ∧ OutputCodes ∧ RepeatCodes ∧
  (∀ (s : State) (tag set cause operand action first second low high rep notify count : Byte) (members : List Byte),
    members.length ≤ 3 → count.toNat = members.length →
    s.Holds 0x12 tag
      ([set, cause, operand, action, first, second, low, high, rep, notify, count] ++ members) →
    (3 < set.toNat → exec .setCue s = .next (s.responded 0x12 tag .badIndex [])) ∧
    ∀ j : Fin 4, j.val = set.toNat →
      let said (c : CueSet) := c.SaidBy j cause operand action first second low high rep notify members
      ((∀ c, ¬said c) → exec .setCue s = .next (s.responded 0x12 tag .badValue [])) ∧
      ∀ c, said c →
        let fixed := (∃ v, c.action = .setTarget (.cell .uplink .far) v) ∨ c.action = .fade (.cell .uplink .far) ∨
          c.action = .cut (.cell .uplink .far)
        (fixed → exec .setCue s = .next (s.responded 0x12 tag .badCell [])) ∧
        (¬fixed → exec .setCue s = .next ({ s with cues := s.cues.set j c }.responded 0x12 tag .ok []))) ∧
  ∀ (s : State) (tag set : Byte),
    (s.Holds 0x13 tag [set] → 3 < set.toNat → exec .enableCue s = .next (s.responded 0x13 tag .badIndex [])) ∧
    (s.Holds 0x14 tag [set] → 3 < set.toNat → exec .disableCue s = .next (s.responded 0x14 tag .badIndex [])) ∧
    ∀ j : Fin 4, j.val = set.toNat →
      (s.Holds 0x13 tag [set] →
        (s.cueFault ≠ none → exec .enableCue s = .next (s.responded 0x13 tag .faultPending [])) ∧
        (s.cueFault = none → exec .enableCue s = .next
          ({ s with cues := s.cues.set j { s.cues.get j with enabled := true } }.responded 0x13 tag .ok []))) ∧
      (s.Holds 0x14 tag [set] → exec .disableCue s = .next
        ({ s with cues := s.cues.set j { s.cues.get j with enabled := false } }.responded 0x14 tag .ok []))

/-- READ CUE answers 20 bytes: the set's whole definition, its enabled state, its fire count, the cue-fault flag and the
fault record; it changes nothing (R170, the READ CUE body and the codes of section 11.2). -/
def Obligations.ReadCueTellsTheWholeSet : Prop :=
  CauseCodes ∧ ActionCodes ∧ SideCodes ∧ OutputCodes ∧ RepeatCodes ∧ FaultReasonCodes ∧
  ∀ (s : State) (tag set : Byte), s.Holds 0x16 tag [set] →
    (3 < set.toNat → exec .readCue s = .next (s.responded 0x16 tag .badIndex [])) ∧
    ∀ j : Fin 4, j.val = set.toNat → ∃ b, exec .readCue s = .next (s.responded 0x16 tag .ok b) ∧
      ((s.cues.get j).InOrder j →
        let c := s.cues.get j
        let members := ((List.finRange 4).filter fun k => c.chain.get k).map fun k => k.val
        b.length = 20 ∧ byteAt b 0 = j.val ∧ byteAt b 1 = causeCode c.cause ∧ byteAt b 2 = causeOperand c.cause ∧
        byteAt b 3 = c.action.code ∧ (b.drop 4).take 2 = c.action.operandBytes ∧ wordAt b 6 = c.action.valueNat ∧
        byteAt b 8 = c.rep.code ∧ byteAt b 9 = (if c.notify then 1 else 0) ∧ byteAt b 10 = members.length ∧
        (∀ k, k < 3 → byteAt b (11 + k) = members.getD k 0) ∧
        byteAt b 14 = (if c.enabled then 1 else 0) ∧ wordAt b 15 = c.fireCount ∧
        (s.cueFault = none → byteAt b 17 = 0 ∧ byteAt b 18 = 0 ∧ byteAt b 19 = 0) ∧
        ∀ f, s.cueFault = some f → byteAt b 17 = 1 ∧ byteAt b 18 = f.set.val ∧ byteAt b 19 = f.reason.code)

/-- FIRE CUE refuses an index above 3 and a disabled set; else it fires the set: an action that cannot be performed is a
fault, answered with its reason, that writes nothing, disables the set, sets CUE and records the first fault; an action that
can be performed is performed and counted, and then the set's chain is fired (R163, R166, R169, the fault reason codes of
section 11.2). -/
def Obligations.FireCueFiresTheNamedSet : Prop :=
  FaultReasonCodes ∧
  ∀ (s : State) (tag set : Byte), s.Holds 0x15 tag [set] →
    (3 < set.toNat → exec .fireCue s = .next (s.responded 0x15 tag .badIndex [])) ∧
    ∀ j : Fin 4, j.val = set.toNat →
      let c := s.cues.get j
      (c.enabled = false → exec .fireCue s = .next (s.responded 0x15 tag .wrongState [])) ∧
      (c.enabled = true →
        (∀ reason, s.Faults c.action reason → exec .fireCue s = .next
          ((s.faulted j c reason).responded 0x15 tag .ok [1, BitVec.ofNat 8 reason.code])) ∧
        ((∀ reason, ¬s.Faults c.action reason) → exec .fireCue s = .next
          ((((s.act c.action).firedCounted j c).fireChain c.chain).responded 0x15 tag .ok [0, 0])))

/-- Each cue action performs the one write of R164's table, as the request of the same effect does: SET_TARGET as a SET GAIN
with no ramp step, FADE, CUT, STEP by the seat's step size or 1,024, START_TIMER, STOP_TIMER, and PREFER, which restarts the
preferred-stable count where the mode changes (R92). -/
def Obligations.CueActionsWriteAsTheTableSays : Prop :=
  ∀ s : State,
    s.act .none = s ∧
    (∀ g x v, s.gains.get? g = some x → ∃ after,
      s.gains.WritesOnly g { x with target := if g.isOwn then min v s.gains.ceiling else v } after ∧
      s.act (.setTarget g v) = { s with gains := after }) ∧
    (∀ g x, s.gains.get? g = some x → ∃ after, s.gains.WritesOnly g { x with target := 0 } after ∧
      s.act (.fade g) = { s with gains := after }) ∧
    (∀ g x, s.gains.get? g = some x → ∃ after, s.gains.WritesOnly g { x with current := 0, target := 0 } after ∧
      s.act (.cut g) = { s with gains := after }) ∧
    (∀ o x amount, s.gains.get? (.level o) = some x →
      (o = .uplink ∧ amount = 1024 ∨ ∃ i, o = .down i ∧ amount = (s.seats.get i).stepSize) →
      (∃ after, s.gains.WritesOnly (.level o) { x with target := min 32767 (x.target + amount) } after ∧
        s.act (.step o .up) = { s with gains := after }) ∧
      ∃ after, s.gains.WritesOnly (.level o) { x with target := x.target - amount } after ∧
        s.act (.step o .down) = { s with gains := after }) ∧
    (∀ i, s.act (.startTimer i) =
      { s with
        timers := s.timers.set i { s.timers.get i with state := .running, count := (s.timers.get i).load } }) ∧
    (∀ i, s.act (.stopTimer i) =
      { s with timers := s.timers.set i { s.timers.get i with state := .idle, count := 0 } }) ∧
    ∀ i side, s.act (.prefer i side) =
      { s with
        seats := s.seats.set i
          { s.seats.get i with
            mode := .prefer side
            stable := if (s.seats.get i).mode = .prefer side then (s.seats.get i).stable else 0 } }

/-- A cause group is handled in four steps, sets 0 to 3, each tested as the step before left it: an enabled set whose cause
is in the group is fired once, any other is passed over. A firing faults, or performs its action, counts and then fires the
chain: its members in ascending order, each enabled one once and without its own chain (R163, R165, R166). -/
def Obligations.CueGroupsAreHandledInAscendingOrder : Prop :=
  (∀ (s : State) (group : List Cause), ∃ stage : Fin 5 → State, stage 0 = s ∧ s.handleGroup group = stage 4 ∧
    ∀ j : Fin 4,
      let c := (stage j.castSucc).cues.get j
      let fires := c.enabled = true ∧ ∃ cause ∈ group, c.cause = some cause
      (fires → stage j.succ = (stage j.castSucc).fireWhole j) ∧ (¬fires → stage j.succ = stage j.castSucc)) ∧
  (∀ (s : State) (j : Fin 4),
    let c := s.cues.get j
    (∀ reason, s.Faults c.action reason →
      s.fireSet j = s.faulted j c reason ∧ s.fireWhole j = s.faulted j c reason) ∧
    ((∀ reason, ¬s.Faults c.action reason) →
      s.fireSet j = (s.act c.action).firedCounted j c ∧
      s.fireWhole j = ((s.act c.action).firedCounted j c).fireChain c.chain)) ∧
  ∀ (s : State) (chain : Bank 4 Bool), ∃ stage : Fin 5 → State, stage 0 = s ∧ s.fireChain chain = stage 4 ∧
    ∀ j : Fin 4,
      let fires := chain.get j = true ∧ ((stage j.castSucc).cues.get j).enabled = true
      (fires → stage j.succ = (stage j.castSucc).fireSet j) ∧ (¬fires → stage j.succ = stage j.castSucc)

/-- Whatever a cause group fires, it writes no more than R163 to R166 name: a gain's target, and its current only to 0; a
timer's state and count; a seat's mode and preferred-stable count; a set's enabled state, only to disabled, and its fire
count, never down; the CUE notice and the fault record, which once present stays. Ramp steps, loads, definitions, voices,
link records, the engine and everything else stay. -/
def Obligations.CueGroupsWriteNoMoreThanTheirActions : Prop :=
  ∀ (s : State) (group : List Cause),
    let t := s.handleGroup group
    (∀ g x, s.gains.get? g = some x → ∃ y, t.gains.get? g = some y ∧ y.step = x.step ∧
      (y.current = x.current ∨ y.current = 0)) ∧
    t.gains.ceiling = s.gains.ceiling ∧
    (∀ i, t.timers.get i =
      { s.timers.get i with state := (t.timers.get i).state, count := (t.timers.get i).count }) ∧
    (∀ i, t.seats.get i = { s.seats.get i with mode := (t.seats.get i).mode, stable := (t.seats.get i).stable }) ∧
    (∀ j, t.cues.get j =
      { s.cues.get j with enabled := (t.cues.get j).enabled, fireCount := (t.cues.get j).fireCount }) ∧
    (∀ j, ((t.cues.get j).enabled = true → (s.cues.get j).enabled = true) ∧
      ((s.cues.get j).fireCount ≤ 65535 → (s.cues.get j).fireCount ≤ (t.cues.get j).fireCount)) ∧
    (s.notices.cue = true → t.notices.cue = true) ∧ (∀ f, s.cueFault = some f → t.cueFault = some f) ∧
    (t ≠ s → ∃ j, (s.cues.get j).enabled = true ∧ ∃ cause ∈ group, (s.cues.get j).cause = some cause) ∧
    t = { s with
      gains := t.gains, timers := t.timers, seats := t.seats, cues := t.cues, cueFault := t.cueFault
      notices := { s.notices with cue := t.notices.cue } }

/-! ## Calls -/

/-- CALL START in STOPPED enters CALL on a LOCKED port and HOLDOVER, with CLOCK_LOST, on an UNLOCKED one, sets b, T and H
to 0, the FIFOs empty, the uplink side WAITING and CLOCK, and answers the state entered; in CALL or HOLDOVER it is refused
(R144, R150). CALL END in STOPPED is refused; else it ends the call, every record STANDBY with empty queues, the seats
silent, the gain currents 0, the pass abandoned, the FIFOs empty, T and H 0 and the notices set, and hands the
LINK_LEFT_LIVE causes to the Cue Unit (R22, R100, R118, R136, R148). -/
def Obligations.CallStartAndCallEnd : Prop :=
  ∀ (s : State) (tag : Byte),
    (s.Holds 0x17 tag [] →
      let started : State :=
        { s with
          ticks := 0, holdover := 0
          pcm := { s.pcm with farEnd := [], uplink := [], side := .waiting, b := 0 }
          notices := { s.notices with clock := true } }
      (s.engine ≠ .stopped → exec .callStart s = .next (s.responded 0x17 tag .wrongState [])) ∧
      (s.engine = .stopped → s.pcm.lock = .locked → exec .callStart s = .next
        ({ started with engine := .call }.responded 0x17 tag .ok [1])) ∧
      (s.engine = .stopped → s.pcm.lock = .unlocked → exec .callStart s = .next
        (({ started with engine := .holdover }.responded 0x17 tag .ok [2]).handleGroup [.clockLost]))) ∧
    (s.Holds 0x18 tag [] →
      (s.engine = .stopped → exec .callEnd s = .next (s.responded 0x18 tag .wrongState [])) ∧
      (s.engine ≠ .stopped → ∃ w causes, s.CallEnded w causes ∧
        exec .callEnd s = .next ((w.responded 0x18 tag .ok []).handleGroup causes)))

/-- CALL CLEAR, in every engine state, stops the engine and abandons the pass; returns every record to its admission values
with its configuration; empties the FIFOs; sets the gain currents to 0, the clip state, the port counters and the slips to
0; stops the timers; disables the cue sets with fire count 0 and clears the fault; clears every notice and change flag, and
then sets CLOCK exactly if the engine was not STOPPED; everything else, the lock state, b, the arbiter, the frame under
transmission, targets, seat configurations and definitions among it, is kept, and no cause is issued (R23, R100, R118, R129,
R149, R160, R170). -/
def Obligations.CallClearClearsTheCall : Prop :=
  ∀ (s : State) (tag : Byte), s.Holds 0x19 tag [] → ∃ w : State,
    exec .callClear s = .next (w.responded 0x19 tag .ok []) ∧
    (∀ i, w.slots.get i = (s.slots.get i).map LinkRecord.renewedRecord) ∧
    (∀ i, w.seats.get i = { s.seats.get i with voice := none, crossfade := none, stable := 0 }) ∧
    (∀ g, w.gains.get? g = (s.gains.get? g).map fun x => { x with current := 0 }) ∧
    w.gains.ceiling = s.gains.ceiling ∧
    (∀ i, w.timers.get i = { s.timers.get i with state := .idle, count := 0 }) ∧
    (∀ j, w.cues.get j = { s.cues.get j with enabled := false, fireCount := 0 }) ∧
    (∀ o, w.clipOf o = ⟨false, 0⟩) ∧ (∀ i, w.linkChanges.get i = false) ∧ (∀ i, w.seatChanges.get i = false) ∧
    w = { s with
      slots := w.slots, seats := w.seats, gains := w.gains, timers := w.timers, cues := w.cues, cueFault := none
      uplinkClip := w.uplinkClip, downClip := w.downClip, linkChanges := w.linkChanges, seatChanges := w.seatChanges
      engine := .stopped, pass := none, ticks := 0, holdover := 0, radio := ⟨0, 0, 0, 0, 0⟩
      pcm := { s.pcm with farEnd := [], uplink := [], side := .waiting, farEndSlips := 0, uplinkSlips := 0 }
      notices :=
        { clock := !(s.engine == .stopped), link := false, seat := false, cue := false, clip := false
          queue := false } }

/-- CLEAR CLIP refuses a set with an unknown output or one twice; else it answers the clip state of the five outputs as it
stood, clears the flags of the outputs named, and keeps the counts and the notices (R129). READ PORT COUNTERS answers the
seven counters, the lock state, the engine state and H, by the codes of section 11.2, and changes nothing (R46, R153). -/
def Obligations.ClearClipAndReadPortCounters : Prop :=
  OutputCodes ∧ LockAndEngineCodes ∧
  (∀ (s : State) (tag : Byte) (body : List Byte), body.length ≤ 5 → s.Holds 0x1D tag body →
    let wrong := ¬body.Nodup ∨ ∃ b ∈ body, 4 < b.toNat
    (wrong → exec .clearClip s = .next (s.responded 0x1D tag .badValue [])) ∧
    (¬wrong → ∃ (w : State) (answer : List Byte), exec .clearClip s = .next (w.responded 0x1D tag .ok answer) ∧
      w = { s with uplinkClip := w.uplinkClip, downClip := w.downClip } ∧ answer.length = 15 ∧
      ∀ o, (w.clipOf o).count = (s.clipOf o).count ∧
        ((w.clipOf o).flag = true ↔ (s.clipOf o).flag = true ∧ ∀ b ∈ body, b.toNat ≠ o.code) ∧
        byteAt answer (3 * o.code) = (if (s.clipOf o).flag then 1 else 0) ∧
        ((s.clipOf o).count ≤ 65535 → wordAt answer (3 * o.code + 1) = (s.clipOf o).count))) ∧
  ∀ (s : State) (tag : Byte), s.Holds 0x1E tag [] →
    ∃ b, exec .readPortCounters s = .next (s.responded 0x1E tag .ok b) ∧ b.length = 18 ∧
      byteAt b 14 = s.pcm.lock.code ∧ byteAt b 15 = s.engine.code ∧
      (s.ReportsInOrder → s.holdover ≤ 65535 →
        wordAt b 0 = s.radio.formatErrors ∧ wordAt b 2 = s.radio.unmatched ∧ wordAt b 4 = s.radio.idleDiscards ∧
        wordAt b 6 = s.radio.statusOnly ∧ wordAt b 8 = s.radio.framesSent ∧ wordAt b 10 = s.pcm.farEndSlips ∧
        wordAt b 12 = s.pcm.uplinkSlips ∧ wordAt b 16 = s.holdover)

/-! ## Ticks and frame syncs -/

/-- A tick outside HOLDOVER: supervision, timers and lock test, and in CALL one more tick since the boundary, up to 4. A
tick that finds a LOCKED port without a frame sync since the tick before moves CALL to HOLDOVER, with H 0, CLOCK set and
CLOCK_LOST issued; in STOPPED it only unlocks the port (R20, R142, R145, R151, R155). -/
def Obligations.TicksOutsideHoldover : Prop :=
  ∀ s : State, s.phase = .ready → s.engine ≠ .holdover → ∃ v causes, s.Ticked v causes ∧
    (s.engine = .stopped → exec .tick s = .next (v.handleGroup causes)) ∧
    (s.engine = .call → s.pcm.seen = true ∨ s.pcm.lock = .unlocked →
      exec .tick s = .next ({ v with ticks := min 4 (s.ticks + 1) }.handleGroup causes)) ∧
    (s.engine = .call → s.pcm.seen = false → s.pcm.lock = .locked →
      exec .tick s = .next
        ({ v with
            ticks := min 4 (s.ticks + 1), engine := .holdover, holdover := 0
            notices := { v.notices with clock := true } }.handleGroup (causes ++ [Cause.clockLost])))

/-- A tick in HOLDOVER, after its supervision, timers and lock test: the one that brings H to 2,000 ends the call, with no
response and no boundary; one that brings the ticks since boundary to 4 sets them to 0 and starts a pass, a pass still in
flight completed first; any other counts both. The rows AUTOMATIC CALL END and HOLDOVER PASS BOUNDARY are that tick, and
nothing where the tick now due does not bring them about (R119, R147, R152). The model's readings in it: the rows
(notes/assumptions/2.md); the completion that a boundary forces has its own cause group, handled before the pass start
(notes/assumptions/8.md); the arbiter chooses at that completion, after its other stages (notes/assumptions/9.md). -/
def Obligations.TicksInHoldoverPaceAndEndTheCall : Prop :=
  ∀ s : State, s.phase = .ready →
    (s.engine = .holdover → ∃ v causes, s.Ticked v causes ∧
      let counted : State := { v with holdover := s.holdover + 1 }
      (2000 ≤ s.holdover + 1 → ∃ w ended, v.CallEnded w ended ∧
        exec .tick s = .next (w.handleGroup (causes ++ ended)) ∧
        exec .automaticCallEnd s = .next (w.handleGroup (causes ++ ended)) ∧
        exec .holdoverPassBoundary s = .next s) ∧
      (s.holdover + 1 < 2000 → s.ticks < 3 →
        exec .tick s = .next ({ counted with ticks := s.ticks + 1 }.handleGroup causes) ∧
        exec .automaticCallEnd s = .next s ∧ exec .holdoverPassBoundary s = .next s) ∧
      (s.holdover + 1 < 2000 → 3 ≤ s.ticks → ∃ start : State,
        (s.pass = none → start = { counted with ticks := 0 }) ∧
        (∀ n, s.pass = some n → (∀ i l, n.links.get i = some l → l.InRange) → ∃ w completed,
          { counted with ticks := 0 }.Completed n w completed ∧ start = w.arbitrate.handleGroup completed) ∧
        let started := ({ st := start, causes } : Event).startPass
        exec .tick s = .next (started.st.handleGroup started.causes) ∧
        exec .holdoverPassBoundary s = .next (started.st.handleGroup started.causes) ∧
        exec .automaticCallEnd s = .next s)) ∧
    (s.engine ≠ .holdover → exec .automaticCallEnd s = .next s ∧ exec .holdoverPassBoundary s = .next s)

/-- The row SUPERVISION EXPIRY of a link is the tick that expires it: the record of a PRIMING or LIVE link with 1 ms
remaining becomes LOST with the values of R18, or STANDBY with the loss counted where the same tick ends the call, its change flag and
LINK set, before the engine's work, so that it is not in the LIVE set of a boundary of the same tick (R20). The row TIMER
EXPIRY of a timer is the tick at which it expires (R155). Where the tick now due expires neither, the rows do nothing
(notes/assumptions/2.md). -/
def Obligations.ExpiryRowsAreTheTickThatExpires : Prop :=
  ∀ s : State, s.phase = .ready → ∃ t, exec .tick s = .next t ∧
    (∀ i r, s.slots.get i = some r →
      (¬r.Expiring → exec (.supervisionExpiry i) s = .next s) ∧
      (r.Expiring → exec (.supervisionExpiry i) s = .next t ∧
        t.linkChanges.get i = true ∧ t.notices.link = true ∧
        (s.engine = .holdover → 2000 ≤ s.holdover + 1 →
          t.slots.get i = some r.lostRecord.standbyRecord) ∧
        (s.engine ≠ .holdover ∨ s.holdover + 1 < 2000 → t.slots.get i = some r.lostRecord) ∧
        (s.engine = .holdover → s.holdover + 1 < 2000 → 3 ≤ s.ticks →
          ∃ n, t.pass = some n ∧ n.links.get i = none))) ∧
    (∀ i, s.slots.get i = none → exec (.supervisionExpiry i) s = .next s) ∧
    ∀ i, (¬TimerExpires s.timers i → exec (.timerExpiry i) s = .next s) ∧
      (TimerExpires s.timers i → exec (.timerExpiry i) s = .next t ∧
        (s.NoCueEnabled → TimerTicks s.timers i (t.timers.get i)))

/-- A frame sync while the port is not active discards its far-end sample, sends 0 and sets the sync-seen flag; while
UNLOCKED it counts a run, and the 64th of the run makes the port LOCKED with b 0, which moves HOLDOVER to CALL with H and T
0, the uplink side WAITING with an empty FIFO, CLOCK set and CLOCK_BACK issued (R137, R139, R141, R146). The row LOCK is
that frame sync, and nothing where the next one does not lock (notes/assumptions/2.md). -/
def Obligations.FrameSyncsOutsideCallDetectTheLock : Prop :=
  ∀ (s : State) (x : Sample) (enabled : Bool), s.phase = .ready →
    (s.engine ≠ .call →
      (s.pcm.lock = .locked → exec (.frameSync x enabled) s = .next
        { s with pcm := { s.pcm with dout := 0, seen := true } }) ∧
      (s.pcm.lock = .unlocked → s.pcm.run + 1 < 64 → exec (.frameSync x enabled) s = .next
        { s with pcm := { s.pcm with dout := 0, seen := true, run := s.pcm.run + 1 } }) ∧
      (s.pcm.lock = .unlocked → 64 ≤ s.pcm.run + 1 →
        let locked : PcmPort := { s.pcm with dout := 0, seen := true, lock := .locked, run := 0, b := 0 }
        (s.engine = .stopped → ∀ c : Instr, (c = .frameSync x enabled ∨ c = .lock x enabled) →
          exec c s = .next { s with pcm := locked }) ∧
        (s.engine = .holdover → ∀ c : Instr, (c = .frameSync x enabled ∨ c = .lock x enabled) →
          exec c s = .next
            ({ s with
                engine := .call, holdover := 0, ticks := 0
                pcm := { locked with side := .waiting, uplink := [] }
                notices := { s.notices with clock := true } }.handleGroup [.clockBack])))) ∧
    (s.pcm.lock = .locked ∨ s.pcm.run + 1 < 64 → exec (.lock x enabled) s = .next s)

/-- A frame sync in CALL, where the port is LOCKED: its far-end sample joins the far-end FIFO, the oldest leaving a full one
and counted; b goes on by 1; a WAITING side at b = 32 with a sample to send becomes SENDING; a WAITING side sends 0, a
SENDING side removes the head and sends it, or 0 with UL_EN low, and with an empty FIFO sends 0 and counts a slip. The one
that brings b to 64 sets b and T to 0 and starts a pass, a pass still in flight completed first, and the row CALL PASS
BOUNDARY is that frame sync, and nothing where the next one is no boundary (R119, R137 to R140, R151). The model's readings
in it: the row (notes/assumptions/2.md); the sync's transfer comes before its boundary, and the completion that a boundary
forces has its own cause group, handled before the pass start (notes/assumptions/8.md); the arbiter chooses at that completion,
after its other stages (notes/assumptions/9.md). -/
def Obligations.FrameSyncsInCallTransferAndStartPasses : Prop :=
  ∀ (s : State) (x : Sample) (enabled : Bool), s.phase = .ready →
    (s.engine = .call → s.pcm.lock = .locked → ∃ p : PcmPort,
      (s.pcm.farEnd.length < 128 → p.farEnd = s.pcm.farEnd ++ [x] ∧ p.farEndSlips = counted s.pcm.farEndSlips 0) ∧
      (s.pcm.farEnd.length = 128 →
        p.farEnd = s.pcm.farEnd.tail ++ [x] ∧ p.farEndSlips = counted s.pcm.farEndSlips 1) ∧
      (s.pcm.side = .waiting → (s.pcm.b + 1 ≠ 32 ∨ s.pcm.uplink = []) →
        p.side = .waiting ∧ p.uplink = s.pcm.uplink ∧ p.dout = 0 ∧ p.uplinkSlips = s.pcm.uplinkSlips) ∧
      (∀ y rest, s.pcm.uplink = y :: rest → (s.pcm.side = .sending ∨ s.pcm.b + 1 = 32) →
        p.side = .sending ∧ p.uplink = rest ∧ p.dout = (if enabled then y else 0) ∧
        p.uplinkSlips = s.pcm.uplinkSlips) ∧
      (s.pcm.uplink = [] → s.pcm.side = .sending →
        p.side = .sending ∧ p.uplink = [] ∧ p.dout = 0 ∧ p.uplinkSlips = counted s.pcm.uplinkSlips 1) ∧
      p = { s.pcm with
        farEnd := p.farEnd, farEndSlips := p.farEndSlips, side := p.side, uplink := p.uplink, dout := p.dout
        uplinkSlips := p.uplinkSlips, b := s.pcm.b + 1, seen := true } ∧
      (s.pcm.b + 1 < 64 → exec (.frameSync x enabled) s = .next { s with pcm := p }) ∧
      (64 ≤ s.pcm.b + 1 → ∃ start : State,
        let reached : State := { s with ticks := 0, pcm := { p with b := 0 } }
        (s.pass = none → start = reached) ∧
        (∀ n, s.pass = some n → (∀ i l, n.links.get i = some l → l.InRange) → ∃ w completed,
          reached.Completed n w completed ∧ start = w.arbitrate.handleGroup completed) ∧
        let started := ({ st := start, causes := [] } : Event).startPass
        ∀ c : Instr, (c = .frameSync x enabled ∨ c = .callPassBoundary x enabled) →
          exec c s = .next (started.st.handleGroup started.causes))) ∧
    (s.engine ≠ .call ∨ s.pcm.b + 1 < 64 → exec (.callPassBoundary x enabled) s = .next s)

/-! ## The mix pass -/

/-- A pass start on a record: one that is not LIVE once the priming test is done is untouched. One that is, with the values
of R50 where it was PRIMING, gives its supply: a full one leaves the queue behind the consumed samples, carries f0 and sets
the starve count to 0; an underrun empties the queue, sets f0 to 0 and counts, and at the starve limit re-primes the record.
The LOW_FILL flag is written and the recorded fill added to the drift window. The change flag, LINK and the causes follow
(R50, R52 to R55, R68, R69, R71 to R74, R121, R122). -/
def Obligations.PassStartsPrimeAndSupplyTheLinks : Prop :=
  ∀ e : Event,
    (∀ i, e.st.slots.get i = none → e.startPass.st.slots.get i = none) ∧
    (∀ i r, e.st.slots.get i = some r →
      (¬r.Joins → e.startPass.st.slots.get i = some r) ∧
      (r.Joins → ∃ m q, r.primedRecord.Supplied m ∧ m.Windowed r.jitter.length q ∧
        e.startPass.st.slots.get i = some q)) ∧
    (∀ i, e.startPass.st.linkChanges.get i = true ↔ e.st.linkChanges.get i = true ∨
      ∃ r, e.st.slots.get i = some r ∧ r.Joins ∧ (r.state = .priming ∨ r.primedRecord.Starves)) ∧
    (e.startPass.st.notices.link = true ↔ e.st.notices.link = true ∨
      ∃ i r, e.st.slots.get i = some r ∧ r.Joins ∧ (r.state = .priming ∨ r.primedRecord.Starves)) ∧
    ∀ c, c ∈ e.startPass.causes ↔ c ∈ e.causes ∨
      ∃ i r, e.st.slots.get i = some r ∧ r.Joins ∧ r.PassCause i c

/-- The snapshot of a pass start: the engine state; for exactly the links of the LIVE set their seat, side, pass drift and 64
outputs, interpolated at the uplink positions where both samples lie in the queue and else 0; for each seat the voice and
crossfade that the selection left and the link on each side; the far-end block, in CALL the 64 oldest samples of the far-end
FIFO, made up with zeros that are counted as slips, else 64 zeros; and the effective gains. Nothing but the snapshot, the
records, the seats, the far-end FIFO and the notices of links and seats is written (R64 to R66, R69, R123 to R125). -/
def Obligations.PassStartsFixTheSnapshot : Prop :=
  ∀ e : Event, ∃ n, e.startPass.st.pass = some n ∧ n.engine = e.st.engine ∧
    (∀ i, n.links.get i = none ↔ ∀ r, e.st.slots.get i = some r → ¬r.Joins) ∧
    (∀ i r, e.st.slots.get i = some r → r.Joins → ∃ l, n.links.get i = some l ∧
      l.seat = r.config.seat ∧ l.side = r.config.side ∧ l.drift = r.drift ∧ l.outputs.length = 64 ∧
      ∀ k y, l.outputs[k]? = some y →
        (r.primedRecord.positionAt k / 2 ^ 24 + 1 < r.jitter.length →
          y.toInt = between r.jitter (r.primedRecord.positionAt k)) ∧
        (r.jitter.length ≤ r.primedRecord.positionAt k / 2 ^ 24 + 1 → y = 0)) ∧
    (∀ i, (n.seats.get i).voice = (e.startPass.st.seats.get i).voice ∧
      (n.seats.get i).crossfade = (e.startPass.st.seats.get i).crossfade ∧
      (n.seats.get i).left = holder e.st.slots i .left ∧ (n.seats.get i).right = holder e.st.slots i .right) ∧
    n.farEnd.length = 64 ∧
    (∀ m y, n.farEnd[m]? = some y → y = if e.st.engine = .call then e.st.pcm.farEnd.getD m 0 else 0) ∧
    (∀ t, n.uplinkGains.get t = e.st.gains.effective .uplink (.voice t)) ∧
    (∀ d, n.farGains.get d = e.st.gains.effective (.down d) .far) ∧
    (∀ d t, (n.voiceGains.get d).get t = e.st.gains.effective (.down d) (.voice t)) ∧
    e.startPass.st = { e.st with
      slots := e.startPass.st.slots, linkChanges := e.startPass.st.linkChanges, seats := e.startPass.st.seats
      seatChanges := e.startPass.st.seatChanges, pass := some n
      notices := { e.st.notices with
        link := e.startPass.st.notices.link, seat := e.startPass.st.notices.seat }
      pcm := if e.st.engine = .call then
          { e.st.pcm with
            farEnd := e.st.pcm.farEnd.drop 64
            farEndSlips := counted e.st.pcm.farEndSlips (64 - e.st.pcm.farEnd.length) }
        else e.st.pcm }

/-- A pass start selects each seat's voice from the sides whose records are in the LIVE set: a FIXED seat its side or
silence; a PREFER seat by R89's table, with the return to the preferred side held for return hold passes in which both sides
are live. A switch writes the voice, sets the count to 0, the change flag and SEAT, and starts a crossfade from the side
heard, or moving in, to the new one; a switch to or from silence leaves none; where the target is the voice nothing but the
count is written. The SEAT notice is set after a pass start exactly if it was before or some seat switched (R87 to R91). -/
def Obligations.PassStartsSelectTheVoices : Prop :=
  (∀ e : Event, e.startPass.st.notices.seat = true ↔ e.st.notices.seat = true ∨
    ∃ i, (e.startPass.st.seats.get i).voice ≠ (e.st.seats.get i).voice) ∧
  ∀ (e : Event) (i : Fin 4),
    let r := e.st.seats.get i
    let q := e.startPass.st.seats.get i
    let live (side : Side) : Prop :=
      ∃ j l, e.st.slots.get j = some l ∧ l.Joins ∧ l.config.seat = i ∧ l.config.side = side
    ∃ (target : Option Side) (held : Nat),
      (∀ p, r.mode = .fixed p → held = 0 ∧ (live p → target = some p) ∧ (¬live p → target = none)) ∧
      (∀ p a, r.mode = .prefer p → a ≠ p →
        (r.voice = some a → live p → live a →
          held = r.stable + 1 ∧ target = if r.returnHold + 1 ≤ r.stable + 1 then some p else some a) ∧
        (live p → (r.voice ≠ some a ∨ ¬live a) → held = 0 ∧ target = some p) ∧
        (¬live p → live a → held = 0 ∧ target = some a) ∧
        (¬live p → ¬live a → held = 0 ∧ target = none)) ∧
      (target = r.voice → q = { r with stable := held } ∧
        e.startPass.st.seatChanges.get i = e.st.seatChanges.get i) ∧
      (target ≠ r.voice →
        q = { r with voice := target, stable := 0, crossfade := q.crossfade } ∧
        e.startPass.st.seatChanges.get i = true ∧ e.startPass.st.notices.seat = true ∧
        (∀ old new, r.voice = some old → target = some new → r.crossfade = none →
          q.crossfade = some { old := old, new := new, k := 1, n := r.fadeLength }) ∧
        (∀ old new x, r.voice = some old → target = some new → r.crossfade = some x →
          q.crossfade = some { old := x.new, new := new, k := 1, n := r.fadeLength }) ∧
        (r.voice = none ∨ target = none → q.crossfade = none))

/-- With d within ±16,384, f0 below 2^24 and Q at most 2^24 + 16,384: a pass needs 64 to 66 samples and consumes 63 to 65,
the needed count less 0 to 2; the position after the last output is the consumed count and the carried f0; a completion
produces 63 to 65 outputs, exactly those whose positions lie below 64 samples, and carries a Q in its range; and every
interpolated sample is the value of R66's formula and lies between its two samples (R66 to R68, R79, R80). -/
def Obligations.ResamplersStayInTheirBounds : Prop :=
  (∀ (f0 : Nat) (d : Int), f0 < 2 ^ 24 → -16384 ≤ d → d ≤ 16384 →
    64 ≤ neededCount f0 d ∧ neededCount f0 d ≤ 66 ∧ 63 ≤ consumedCount f0 d ∧ consumedCount f0 d ≤ 65 ∧
    consumedCount f0 d ≤ neededCount f0 d ∧ neededCount f0 d ≤ consumedCount f0 d + 2 ∧
    (neededCount f0 d = 64 → d < 0) ∧ (neededCount f0 d = 66 → 0 < d) ∧ carriedPhase f0 d < 2 ^ 24 ∧
    (f0 : Int) + 64 * (16777216 + d) = consumedCount f0 d * 2 ^ 24 + carriedPhase f0 d) ∧
  (∀ (q : Nat) (d : Int), q ≤ 2 ^ 24 + 16384 → -16384 ≤ d → d ≤ 16384 →
    63 ≤ downlinkCount q d ∧ downlinkCount q d ≤ 65 ∧
    (∀ k : Nat, k < downlinkCount q d ↔ (q : Int) + k * (16777216 - d) < 64 * 2 ^ 24) ∧
    (carriedPosition q d : Int) = q + downlinkCount q d * (16777216 - d) - 64 * 2 ^ 24 ∧
    carriedPosition q d ≤ 2 ^ 24 + 16383) ∧
  ∀ (x0 x1 : Sample) (f15 : Nat), f15 ≤ 32767 →
    (interpolate x0 x1 f15).toInt = x0.toInt + ((x1.toInt - x0.toInt) * f15 + 16384) / 32768 ∧
    min x0.toInt x1.toInt ≤ (interpolate x0 x1 f15).toInt ∧ (interpolate x0 x1 f15).toInt ≤ max x0.toInt x1.toInt

/-- The mix of a snapshot: the sum of an output is exactly the sum over its five sources of effective gain times sample, the
far-end source taking no part in UPLINK; the sample of a side is that of the link on it in the LIVE set, or 0; a voice sample is
0, its side's sample, or a crossfade rounded half up that lies between its two sides. Each output sample is the sum reduced by
rounding half up and saturated, which it is exactly where the sum is 536,862,720 or more or −536,879,105 or less. With effective
gains of at most 32,767 and crossfades at positions 1 to N every sum lies within ±5,368,545,280. An effective gain is the
rounded product of cell and level, at most 32,767, and 0 for the cell (UPLINK, FAR) (R94, R103, R125 to R127). -/
def Obligations.TheMixIsExactUntilItSaturates : Prop :=
  (∀ (n : Snapshot) (m : Nat),
    n.acc .uplink m = ∑ t : Fin 4, (n.uplinkGains.get t : Int) * n.voiceSample t m ∧
    ∀ d : Fin 4, n.acc (.down d) m = (n.farGains.get d : Int) * (n.farEnd.getD m 0).toInt +
      ∑ t : Fin 4, ((n.voiceGains.get d).get t : Int) * n.voiceSample t m) ∧
  (∀ (n : Snapshot) (seat : Fin 4) (side : Side) (m : Nat),
    let onSide := match side with
      | .left => (n.seats.get seat).left
      | .right => (n.seats.get seat).right
    (∀ i l, onSide = some i → n.links.get i = some l → n.sideSample seat side m = (l.outputs.getD m 0).toInt) ∧
    ((∀ i, onSide = some i → n.links.get i = none) → n.sideSample seat side m = 0)) ∧
  (∀ (n : Snapshot) (o : Output), (n.row o).length = 64 ∧
    ∀ m y, (n.row o)[m]? = some y → y.toInt = outputValue (n.acc o m)) ∧
  (∀ acc : Int, isSaturated acc = true ↔ Saturates acc) ∧
  (∀ (n : Snapshot) (seat : Fin 4) (m : Nat),
    ((n.seats.get seat).voice = none → n.voiceSample seat m = 0) ∧
    (∀ side, (n.seats.get seat).voice = some side → (n.seats.get seat).crossfade = none →
      n.voiceSample seat m = n.sideSample seat side m) ∧
    (∀ side x, (n.seats.get seat).voice = some side → (n.seats.get seat).crossfade = some x → 1 ≤ x.k → x.k ≤ x.n →
      let a := n.sideSample seat x.old m
      let b := n.sideSample seat side m
      n.voiceSample seat m * x.n ≤ a * (x.n - x.k : Int) + b * x.k + (x.n / 2 : Nat) ∧
      a * (x.n - x.k : Int) + b * x.k + (x.n / 2 : Nat) < (n.voiceSample seat m + 1) * x.n ∧
      min a b ≤ n.voiceSample seat m ∧ n.voiceSample seat m ≤ max a b)) ∧
  (∀ (n : Snapshot) (o : Output) (m : Nat),
    (∀ t, n.uplinkGains.get t ≤ 32767) → (∀ d, n.farGains.get d ≤ 32767) →
    (∀ d t, (n.voiceGains.get d).get t ≤ 32767) →
    (∀ seat x, (n.seats.get seat).crossfade = some x → 1 ≤ x.k ∧ x.k ≤ x.n) →
    -5368545280 ≤ n.acc o m ∧ n.acc o m ≤ 5368545280) ∧
  ∀ g : Gains,
    g.effective .uplink .far = 0 ∧
    (∀ o source, g.effective o source ≤ 32767) ∧
    ∀ o source x l, g.get? (.cell o source) = some x → g.get? (.level o) = some l →
      g.effective o source = min 32767 ((x.current * l.current + 8192) / 16384) ∧
      (x.current ≤ 8192 → l.current ≤ 32767 → g.effective o source ≤ 16384)

/-- The completion of the pass in flight does all the stages of R130 at one instant: the uplink disposal by the engine state
at the completion, the clip judgement, the activity and the downlink of each link LIVE in the pass and still LIVE, the ramps
of all 29 gains, and the crossfades; then an idle transmit side chooses, and the causes are handed to the Cue Unit. Where no
pass is in flight nothing happens (R93, R95 to R97, R109, R128, R130 to R132; the row, notes/assumptions/4.md; the arbiter's
instant, notes/assumptions/9.md). -/
def Obligations.PassCompletionDoesAllItsStages : Prop :=
  ∀ s : State, s.phase = .ready →
    (s.pass = none → exec .passCompletion s = .next s) ∧
    ∀ n, s.pass = some n → (∀ i l, n.links.get i = some l → l.InRange) → ∃ w causes, s.Completed n w causes ∧
      (∀ f, s.sending = some f → w.arbitrate = w) ∧
      exec .passCompletion s = .next (w.arbitrate.handleGroup causes)

/-! ## Invariants that every step keeps -/

/-- The reset state meets every invariant below (R183, R184 and the reset values of each chapter; the waiting commands are
the model's own). -/
def Obligations.ResetStateIsInOrder : Prop :=
  State.reset.LinksInOrder ∧ State.reset.TableInOrder ∧ State.reset.EngineInOrder ∧ State.reset.RecordsInOrder ∧
  State.reset.ReportsInOrder

/-- Every step keeps every link record and every snapshotted link in range: a valid configuration, d within ±16,384, f0 and
Q in their ranges, at most 768 samples in each queue, counters of at most 65,535, and every field agreeing with the
record's state (R3, R5 to R7, R19, R47, R54, R57, R60, R63, R71, R73, R80, R96 to R98). -/
def Obligations.EveryStepKeepsTheLinksInOrder : Prop :=
  ∀ s t : State, s.LinksInOrder → step s = .next t → t.LinksInOrder

/-- Every step keeps handles and seat sides unique among the records, and every record that is LIVE while a pass is in
flight in that pass's LIVE set with its seat and side (R2, R10, R57, R132). -/
def Obligations.EveryStepKeepsTheTableInOrder : Prop :=
  ∀ s t : State, s.TableInOrder → step s = .next t → t.TableInOrder

/-- Every step keeps the engine and the port in agreement: CALL only with a LOCKED port; STOPPED with no pass, every record
STANDBY with empty queues, every gain current 0 and every seat silent; FIFOs of at most 128 samples, empty outside CALL; T,
H, b and the run count in their ranges (R24, R100, R110, R119, R137 to R139, R141, R147, R151, R152). -/
def Obligations.EveryStepKeepsTheEngineInOrder : Prop :=
  ∀ s t : State, s.EngineInOrder → step s = .next t → t.EngineInOrder

/-- Every step keeps every gain in range and every own-voice cell at or below the sidetone ceiling; every timer IDLE exactly
with count 0, timer 0 on the tick; every seat record in range, a crossfade leading to the voice; every cue set with a
definition that SET CUE accepts (R84, R91, R93, R103, R104, R107, R154, R161, R167). -/
def Obligations.EveryStepKeepsTheRecordsInOrder : Prop :=
  ∀ s t : State, s.RecordsInOrder → step s = .next t → t.RecordsInOrder

/-- Every step keeps what the part reports in order: a held request of at most 64 bytes; a response of at most 128 bytes,
pending while a READ of it is in progress; LINK set while a link's change flag is, SEAT while a seat's, CUE while the
cue-fault flag; and the counters of the ports and of clipping at most 65,535 (R46, R101, R128, R153, R166, R174, R176 to
R178, R181). -/
def Obligations.EveryStepKeepsTheReportsInOrder : Prop :=
  ∀ s t : State, s.ReportsInOrder → step s = .next t → t.ReportsInOrder
end

