-- ==== Sys2Proof/Laws/Bank.lean ====
section
/-! SUPPORT. What a bank reads after each way of writing it; later proofs cite these and never unfold a bank. -/

namespace Sys2Proof

variable {n : Nat} {α β : Type}

/-- Two banks with the same reads are the same. -/
@[ext] theorem Bank.ext_get {a b : Bank n α} (h : ∀ i, a.get i = b.get i) : a = b := by
  cases a with
  | mk xs hx =>
    cases b with
    | mk ys hy =>
      have : xs = ys := by
        apply List.ext_getElem (by omega)
        intro i hi _
        simpa [Bank.get] using h ⟨i, by omega⟩
      subst this
      rfl

@[simp] theorem Bank.get_ofFn (f : Fin n → α) (i : Fin n) : (Bank.ofFn f).get i = f i := by
  simp [Bank.get, Bank.ofFn]

theorem Bank.get_set (b : Bank n α) (i j : Fin n) (a : α) :
    (b.set i a).get j = if j = i then a else b.get j := by
  by_cases h : j = i
  · subst h
    simp [Bank.get, Bank.set]
  · have : i.val ≠ j.val := fun e => h (Fin.ext e.symm)
    simp [Bank.get, Bank.set, this, h]

@[simp] theorem Bank.get_set_self (b : Bank n α) (i : Fin n) (a : α) : (b.set i a).get i = a := by
  simp [Bank.get_set]

@[simp] theorem Bank.get_set_ne (b : Bank n α) {i j : Fin n} (a : α) (h : j ≠ i) :
    (b.set i a).get j = b.get j := by
  simp [Bank.get_set, h]

/-- Writing what is there already changes nothing. -/
@[simp] theorem Bank.set_get (b : Bank n α) (i : Fin n) : b.set i (b.get i) = b := by
  ext j
  by_cases h : j = i
  · subst h
    simp
  · simp [h]

@[simp] theorem Bank.get_mapIdx (b : Bank n α) (f : Fin n → α → β) (i : Fin n) :
    (b.mapIdx f).get i = f i (b.get i) := by
  simp [Bank.mapIdx]

@[simp] theorem Bank.get_map (b : Bank n α) (f : α → β) (i : Fin n) : (b.map f).get i = f (b.get i) := by
  simp [Bank.map]

@[simp] theorem Bank.get_fill (a : α) (i : Fin n) : (Bank.fill n a).get i = a := by
  simp [Bank.fill]

@[simp] theorem Bank.any_eq_true (b : Bank n α) (p : Fin n → α → Bool) :
    b.any p = true ↔ ∃ i, p i (b.get i) = true := by
  simp [Bank.any]

theorem Bank.any_eq_false (b : Bank n α) (p : Fin n → α → Bool) :
    b.any p = false ↔ ∀ i, p i (b.get i) = false := by
  simp [Bank.any]

/-- The lowest number whose thing satisfies `p`, characterised. -/
theorem Bank.find?_eq_some (b : Bank n α) (p : α → Bool) (i : Fin n) :
    b.find? p = some i ↔ p (b.get i) = true ∧ ∀ j < i, p (b.get j) = false := by
  unfold Bank.find?
  rw [List.find?_eq_some_iff_getElem]
  constructor
  · rintro ⟨hp, k, hk, hki, hlt⟩
    refine ⟨hp, fun j hj => ?_⟩
    have hk' : k = i.val := by
      have := congrArg Fin.val hki
      simpa using this
    have := hlt j.val (by rw [hk']; exact hj)
    simpa using this
  · rintro ⟨hp, h⟩
    refine ⟨hp, i.val, by simp, by simp, fun j hj => ?_⟩
    simpa using h ⟨j, by omega⟩ (by exact hj)

/-- No thing satisfies `p`. -/
theorem Bank.find?_eq_none (b : Bank n α) (p : α → Bool) :
    b.find? p = none ↔ ∀ i, p (b.get i) = false := by
  simp [Bank.find?]

/-- What `find?` finds satisfies `p`. -/
theorem Bank.find?_some_holds {b : Bank n α} {p : α → Bool} {i : Fin n} (h : b.find? p = some i) :
    p (b.get i) = true := ((b.find?_eq_some p i).mp h).1

end Sys2Proof
end

