-- ==== Sys2Proof/Laws/Cues.lean ====
section
/-! SUPPORT. What the handling of a cause group can do: it is a sequence of firings, so whatever every firing keeps it
keeps; and it touches only the gains, the timers, the seats, the cue sets, the fault record and the CUE notice. -/

namespace Sys2Proof.Machine

open Sys2Proof

/-- What every firing keeps, a fold of firings keeps. -/
theorem fold_fireSet_keeps {P : State → Prop} (fire : State → Fin 4 → State) (h : ∀ s j, P s → P (fire s j))
    (l : List (Fin 4)) (s : State) (hs : P s) : P (l.foldl fire s) := by
  induction l generalizing s with
  | nil => exact hs
  | cons j l ih => exact ih _ (h s j hs)

/-- What every firing without a chain keeps, a chain keeps. -/
theorem fireChain_keeps {P : State → Prop} (h : ∀ s j, P s → P (s.fireSet j)) (s : State) (chain : Bank 4 Bool)
    (hs : P s) : P (s.fireChain chain) := by
  refine fold_fireSet_keeps _ (fun s j hs => ?_) _ s hs
  split
  · exact h s j hs
  · exact hs

/-- What every firing without a chain keeps, a firing with its chain keeps. -/
theorem fireWhole_keeps {P : State → Prop} (h : ∀ s j, P s → P (s.fireSet j)) (s : State) (j : Fin 4) (hs : P s) :
    P (s.fireWhole j) := by
  unfold State.fireWhole
  split
  · exact h s j hs
  · exact fireChain_keeps h _ _ (h s j hs)

/-- What every firing without a chain keeps, the handling of a cause group keeps. -/
theorem handleGroup_keeps {P : State → Prop} (h : ∀ s j, P s → P (s.fireSet j)) (s : State) (group : List Cause)
    (hs : P s) : P (s.handleGroup group) := by
  refine fold_fireSet_keeps _ (fun s j hs => ?_) _ s hs
  split
  · exact fireWhole_keeps h s j hs
  · exact hs

/-- A set of the Cue Unit matches no cause of an empty group. -/
@[simp] theorem isMatch_nil (c : CueSet) : c.isMatch [] = false := by
  unfold CueSet.isMatch
  split <;> simp

/-- An event that issues no cause leaves the Cue Unit nothing to do. -/
@[simp] theorem handleGroup_nil (s : State) : s.handleGroup [] = s := by
  simp [State.handleGroup, List.finRange, List.ofFn, Fin.foldr, Fin.foldr.loop]

/-- With no set enabled a cause group does nothing. -/
theorem handleGroup_of_none_enabled (s : State) (h : ∀ j, (s.cues.get j).enabled = false) (group : List Cause) :
    s.handleGroup group = s := by
  have step : ∀ l : List (Fin 4), l.foldl
      (fun s j => if (s.cues.get j).enabled && (s.cues.get j).isMatch group then s.fireWhole j else s) s = s := by
    intro l
    induction l with
    | nil => rfl
    | cons j l ih =>
      rw [List.foldl_cons]
      simp only [h j, Bool.false_and, Bool.false_eq_true, if_false]
      exact ih
  exact step _

/-- A firing of one set without its chain, said once: a fault disables the set, sets CUE and keeps the first fault record;
else the action is performed, the firing counted, a ONCE set disabled, and CUE set for a notifying set. -/
theorem fireSet_cases (s : State) (j : Fin 4) :
    (∃ reason, s.actionFault (s.cues.get j).action = some reason ∧ s.fireSet j = s.cueFaults j reason) ∨
    (s.actionFault (s.cues.get j).action = none ∧ s.fireSet j = (s.act (s.cues.get j).action).cueFired j) := by
  unfold State.fireSet
  cases h : s.actionFault (s.cues.get j).action with
  | none => exact .inr ⟨rfl, rfl⟩
  | some reason => exact .inl ⟨reason, rfl, rfl⟩

/-! ### What an action leaves alone -/

@[simp] theorem act_phase (s : State) (a : Action) : (s.act a).phase = s.phase := by cases a <;> rfl
@[simp] theorem act_iface (s : State) (a : Action) : (s.act a).iface = s.iface := by cases a <;> rfl
@[simp] theorem act_busy (s : State) (a : Action) : (s.act a).busy = s.busy := by cases a <;> rfl
@[simp] theorem act_transaction (s : State) (a : Action) : (s.act a).transaction = s.transaction := by cases a <;> rfl
@[simp] theorem act_miso (s : State) (a : Action) : (s.act a).miso = s.miso := by cases a <;> rfl
@[simp] theorem act_reception (s : State) (a : Action) : (s.act a).reception = s.reception := by cases a <;> rfl
@[simp] theorem act_notices (s : State) (a : Action) : (s.act a).notices = s.notices := by cases a <;> rfl
@[simp] theorem act_mask (s : State) (a : Action) : (s.act a).mask = s.mask := by cases a <;> rfl
@[simp] theorem act_linkChanges (s : State) (a : Action) : (s.act a).linkChanges = s.linkChanges := by cases a <;> rfl
@[simp] theorem act_seatChanges (s : State) (a : Action) : (s.act a).seatChanges = s.seatChanges := by cases a <;> rfl
@[simp] theorem act_slots (s : State) (a : Action) : (s.act a).slots = s.slots := by cases a <;> rfl
@[simp] theorem act_radio (s : State) (a : Action) : (s.act a).radio = s.radio := by cases a <;> rfl
@[simp] theorem act_arbiter (s : State) (a : Action) : (s.act a).arbiter = s.arbiter := by cases a <;> rfl
@[simp] theorem act_sending (s : State) (a : Action) : (s.act a).sending = s.sending := by cases a <;> rfl
@[simp] theorem act_engine (s : State) (a : Action) : (s.act a).engine = s.engine := by cases a <;> rfl
@[simp] theorem act_pass (s : State) (a : Action) : (s.act a).pass = s.pass := by cases a <;> rfl
@[simp] theorem act_uplinkClip (s : State) (a : Action) : (s.act a).uplinkClip = s.uplinkClip := by cases a <;> rfl
@[simp] theorem act_downClip (s : State) (a : Action) : (s.act a).downClip = s.downClip := by cases a <;> rfl
@[simp] theorem act_ticks (s : State) (a : Action) : (s.act a).ticks = s.ticks := by cases a <;> rfl
@[simp] theorem act_holdover (s : State) (a : Action) : (s.act a).holdover = s.holdover := by cases a <;> rfl
@[simp] theorem act_pcm (s : State) (a : Action) : (s.act a).pcm = s.pcm := by cases a <;> rfl
@[simp] theorem act_cues (s : State) (a : Action) : (s.act a).cues = s.cues := by cases a <;> rfl
@[simp] theorem act_cueFault (s : State) (a : Action) : (s.act a).cueFault = s.cueFault := by cases a <;> rfl
@[simp] theorem act_pending (s : State) (a : Action) : (s.act a).pending = s.pending := by cases a <;> rfl

/-! ### What a firing leaves alone -/

@[simp] theorem fireSet_phase (s : State) (j : Fin 4) : (s.fireSet j).phase = s.phase := by
  rcases fireSet_cases s j with ⟨_, _, h⟩ | ⟨_, h⟩ <;> rw [h]
  · rfl
  · exact act_phase s _

@[simp] theorem fireSet_iface (s : State) (j : Fin 4) : (s.fireSet j).iface = s.iface := by
  rcases fireSet_cases s j with ⟨_, _, h⟩ | ⟨_, h⟩ <;> rw [h]
  · rfl
  · exact act_iface s _

@[simp] theorem fireSet_busy (s : State) (j : Fin 4) : (s.fireSet j).busy = s.busy := by
  rcases fireSet_cases s j with ⟨_, _, h⟩ | ⟨_, h⟩ <;> rw [h]
  · rfl
  · exact act_busy s _

@[simp] theorem fireSet_transaction (s : State) (j : Fin 4) : (s.fireSet j).transaction = s.transaction := by
  rcases fireSet_cases s j with ⟨_, _, h⟩ | ⟨_, h⟩ <;> rw [h]
  · rfl
  · exact act_transaction s _

@[simp] theorem fireSet_miso (s : State) (j : Fin 4) : (s.fireSet j).miso = s.miso := by
  rcases fireSet_cases s j with ⟨_, _, h⟩ | ⟨_, h⟩ <;> rw [h]
  · rfl
  · exact act_miso s _

@[simp] theorem fireSet_reception (s : State) (j : Fin 4) : (s.fireSet j).reception = s.reception := by
  rcases fireSet_cases s j with ⟨_, _, h⟩ | ⟨_, h⟩ <;> rw [h]
  · rfl
  · exact act_reception s _

@[simp] theorem fireSet_mask (s : State) (j : Fin 4) : (s.fireSet j).mask = s.mask := by
  rcases fireSet_cases s j with ⟨_, _, h⟩ | ⟨_, h⟩ <;> rw [h]
  · rfl
  · exact act_mask s _

@[simp] theorem fireSet_linkChanges (s : State) (j : Fin 4) : (s.fireSet j).linkChanges = s.linkChanges := by
  rcases fireSet_cases s j with ⟨_, _, h⟩ | ⟨_, h⟩ <;> rw [h]
  · rfl
  · exact act_linkChanges s _

@[simp] theorem fireSet_seatChanges (s : State) (j : Fin 4) : (s.fireSet j).seatChanges = s.seatChanges := by
  rcases fireSet_cases s j with ⟨_, _, h⟩ | ⟨_, h⟩ <;> rw [h]
  · rfl
  · exact act_seatChanges s _

@[simp] theorem fireSet_slots (s : State) (j : Fin 4) : (s.fireSet j).slots = s.slots := by
  rcases fireSet_cases s j with ⟨_, _, h⟩ | ⟨_, h⟩ <;> rw [h]
  · rfl
  · exact act_slots s _

@[simp] theorem fireSet_radio (s : State) (j : Fin 4) : (s.fireSet j).radio = s.radio := by
  rcases fireSet_cases s j with ⟨_, _, h⟩ | ⟨_, h⟩ <;> rw [h]
  · rfl
  · exact act_radio s _

@[simp] theorem fireSet_arbiter (s : State) (j : Fin 4) : (s.fireSet j).arbiter = s.arbiter := by
  rcases fireSet_cases s j with ⟨_, _, h⟩ | ⟨_, h⟩ <;> rw [h]
  · rfl
  · exact act_arbiter s _

@[simp] theorem fireSet_sending (s : State) (j : Fin 4) : (s.fireSet j).sending = s.sending := by
  rcases fireSet_cases s j with ⟨_, _, h⟩ | ⟨_, h⟩ <;> rw [h]
  · rfl
  · exact act_sending s _

@[simp] theorem fireSet_engine (s : State) (j : Fin 4) : (s.fireSet j).engine = s.engine := by
  rcases fireSet_cases s j with ⟨_, _, h⟩ | ⟨_, h⟩ <;> rw [h]
  · rfl
  · exact act_engine s _

@[simp] theorem fireSet_pass (s : State) (j : Fin 4) : (s.fireSet j).pass = s.pass := by
  rcases fireSet_cases s j with ⟨_, _, h⟩ | ⟨_, h⟩ <;> rw [h]
  · rfl
  · exact act_pass s _

@[simp] theorem fireSet_uplinkClip (s : State) (j : Fin 4) : (s.fireSet j).uplinkClip = s.uplinkClip := by
  rcases fireSet_cases s j with ⟨_, _, h⟩ | ⟨_, h⟩ <;> rw [h]
  · rfl
  · exact act_uplinkClip s _

@[simp] theorem fireSet_downClip (s : State) (j : Fin 4) : (s.fireSet j).downClip = s.downClip := by
  rcases fireSet_cases s j with ⟨_, _, h⟩ | ⟨_, h⟩ <;> rw [h]
  · rfl
  · exact act_downClip s _

@[simp] theorem fireSet_ticks (s : State) (j : Fin 4) : (s.fireSet j).ticks = s.ticks := by
  rcases fireSet_cases s j with ⟨_, _, h⟩ | ⟨_, h⟩ <;> rw [h]
  · rfl
  · exact act_ticks s _

@[simp] theorem fireSet_holdover (s : State) (j : Fin 4) : (s.fireSet j).holdover = s.holdover := by
  rcases fireSet_cases s j with ⟨_, _, h⟩ | ⟨_, h⟩ <;> rw [h]
  · rfl
  · exact act_holdover s _

@[simp] theorem fireSet_pcm (s : State) (j : Fin 4) : (s.fireSet j).pcm = s.pcm := by
  rcases fireSet_cases s j with ⟨_, _, h⟩ | ⟨_, h⟩ <;> rw [h]
  · rfl
  · exact act_pcm s _

@[simp] theorem fireSet_pending (s : State) (j : Fin 4) : (s.fireSet j).pending = s.pending := by
  rcases fireSet_cases s j with ⟨_, _, h⟩ | ⟨_, h⟩ <;> rw [h]
  · rfl
  · exact act_pending s _

/-! ### What a cause group leaves alone -/

@[simp] theorem handleGroup_phase (s : State) (g : List Cause) : (s.handleGroup g).phase = s.phase :=
  handleGroup_keeps (P := fun t => t.phase = s.phase) (fun t j h => by rw [fireSet_phase, h]) s g rfl

@[simp] theorem fireWhole_phase (s : State) (j : Fin 4) : (s.fireWhole j).phase = s.phase :=
  fireWhole_keeps (P := fun t => t.phase = s.phase) (fun t j h => by rw [fireSet_phase, h]) s j rfl

@[simp] theorem handleGroup_iface (s : State) (g : List Cause) : (s.handleGroup g).iface = s.iface :=
  handleGroup_keeps (P := fun t => t.iface = s.iface) (fun t j h => by rw [fireSet_iface, h]) s g rfl

@[simp] theorem fireWhole_iface (s : State) (j : Fin 4) : (s.fireWhole j).iface = s.iface :=
  fireWhole_keeps (P := fun t => t.iface = s.iface) (fun t j h => by rw [fireSet_iface, h]) s j rfl

@[simp] theorem handleGroup_busy (s : State) (g : List Cause) : (s.handleGroup g).busy = s.busy :=
  handleGroup_keeps (P := fun t => t.busy = s.busy) (fun t j h => by rw [fireSet_busy, h]) s g rfl

@[simp] theorem fireWhole_busy (s : State) (j : Fin 4) : (s.fireWhole j).busy = s.busy :=
  fireWhole_keeps (P := fun t => t.busy = s.busy) (fun t j h => by rw [fireSet_busy, h]) s j rfl

@[simp] theorem handleGroup_transaction (s : State) (g : List Cause) : (s.handleGroup g).transaction = s.transaction :=
  handleGroup_keeps (P := fun t => t.transaction = s.transaction) (fun t j h => by rw [fireSet_transaction, h]) s g rfl

@[simp] theorem fireWhole_transaction (s : State) (j : Fin 4) : (s.fireWhole j).transaction = s.transaction :=
  fireWhole_keeps (P := fun t => t.transaction = s.transaction) (fun t j h => by rw [fireSet_transaction, h]) s j rfl

@[simp] theorem handleGroup_miso (s : State) (g : List Cause) : (s.handleGroup g).miso = s.miso :=
  handleGroup_keeps (P := fun t => t.miso = s.miso) (fun t j h => by rw [fireSet_miso, h]) s g rfl

@[simp] theorem handleGroup_reception (s : State) (g : List Cause) : (s.handleGroup g).reception = s.reception :=
  handleGroup_keeps (P := fun t => t.reception = s.reception) (fun t j h => by rw [fireSet_reception, h]) s g rfl

@[simp] theorem fireWhole_miso (s : State) (j : Fin 4) : (s.fireWhole j).miso = s.miso :=
  fireWhole_keeps (P := fun t => t.miso = s.miso) (fun t j h => by rw [fireSet_miso, h]) s j rfl

@[simp] theorem fireWhole_reception (s : State) (j : Fin 4) : (s.fireWhole j).reception = s.reception :=
  fireWhole_keeps (P := fun t => t.reception = s.reception) (fun t j h => by rw [fireSet_reception, h]) s j rfl

@[simp] theorem handleGroup_mask (s : State) (g : List Cause) : (s.handleGroup g).mask = s.mask :=
  handleGroup_keeps (P := fun t => t.mask = s.mask) (fun t j h => by rw [fireSet_mask, h]) s g rfl

@[simp] theorem fireWhole_mask (s : State) (j : Fin 4) : (s.fireWhole j).mask = s.mask :=
  fireWhole_keeps (P := fun t => t.mask = s.mask) (fun t j h => by rw [fireSet_mask, h]) s j rfl

@[simp] theorem handleGroup_linkChanges (s : State) (g : List Cause) : (s.handleGroup g).linkChanges = s.linkChanges :=
  handleGroup_keeps (P := fun t => t.linkChanges = s.linkChanges) (fun t j h => by rw [fireSet_linkChanges, h]) s g rfl

@[simp] theorem fireWhole_linkChanges (s : State) (j : Fin 4) : (s.fireWhole j).linkChanges = s.linkChanges :=
  fireWhole_keeps (P := fun t => t.linkChanges = s.linkChanges) (fun t j h => by rw [fireSet_linkChanges, h]) s j rfl

@[simp] theorem handleGroup_seatChanges (s : State) (g : List Cause) : (s.handleGroup g).seatChanges = s.seatChanges :=
  handleGroup_keeps (P := fun t => t.seatChanges = s.seatChanges) (fun t j h => by rw [fireSet_seatChanges, h]) s g rfl

@[simp] theorem fireWhole_seatChanges (s : State) (j : Fin 4) : (s.fireWhole j).seatChanges = s.seatChanges :=
  fireWhole_keeps (P := fun t => t.seatChanges = s.seatChanges) (fun t j h => by rw [fireSet_seatChanges, h]) s j rfl

@[simp] theorem handleGroup_slots (s : State) (g : List Cause) : (s.handleGroup g).slots = s.slots :=
  handleGroup_keeps (P := fun t => t.slots = s.slots) (fun t j h => by rw [fireSet_slots, h]) s g rfl

@[simp] theorem fireWhole_slots (s : State) (j : Fin 4) : (s.fireWhole j).slots = s.slots :=
  fireWhole_keeps (P := fun t => t.slots = s.slots) (fun t j h => by rw [fireSet_slots, h]) s j rfl

@[simp] theorem handleGroup_radio (s : State) (g : List Cause) : (s.handleGroup g).radio = s.radio :=
  handleGroup_keeps (P := fun t => t.radio = s.radio) (fun t j h => by rw [fireSet_radio, h]) s g rfl

@[simp] theorem fireWhole_radio (s : State) (j : Fin 4) : (s.fireWhole j).radio = s.radio :=
  fireWhole_keeps (P := fun t => t.radio = s.radio) (fun t j h => by rw [fireSet_radio, h]) s j rfl

@[simp] theorem handleGroup_arbiter (s : State) (g : List Cause) : (s.handleGroup g).arbiter = s.arbiter :=
  handleGroup_keeps (P := fun t => t.arbiter = s.arbiter) (fun t j h => by rw [fireSet_arbiter, h]) s g rfl

@[simp] theorem fireWhole_arbiter (s : State) (j : Fin 4) : (s.fireWhole j).arbiter = s.arbiter :=
  fireWhole_keeps (P := fun t => t.arbiter = s.arbiter) (fun t j h => by rw [fireSet_arbiter, h]) s j rfl

@[simp] theorem handleGroup_sending (s : State) (g : List Cause) : (s.handleGroup g).sending = s.sending :=
  handleGroup_keeps (P := fun t => t.sending = s.sending) (fun t j h => by rw [fireSet_sending, h]) s g rfl

@[simp] theorem fireWhole_sending (s : State) (j : Fin 4) : (s.fireWhole j).sending = s.sending :=
  fireWhole_keeps (P := fun t => t.sending = s.sending) (fun t j h => by rw [fireSet_sending, h]) s j rfl

@[simp] theorem handleGroup_engine (s : State) (g : List Cause) : (s.handleGroup g).engine = s.engine :=
  handleGroup_keeps (P := fun t => t.engine = s.engine) (fun t j h => by rw [fireSet_engine, h]) s g rfl

@[simp] theorem fireWhole_engine (s : State) (j : Fin 4) : (s.fireWhole j).engine = s.engine :=
  fireWhole_keeps (P := fun t => t.engine = s.engine) (fun t j h => by rw [fireSet_engine, h]) s j rfl

@[simp] theorem handleGroup_pass (s : State) (g : List Cause) : (s.handleGroup g).pass = s.pass :=
  handleGroup_keeps (P := fun t => t.pass = s.pass) (fun t j h => by rw [fireSet_pass, h]) s g rfl

@[simp] theorem fireWhole_pass (s : State) (j : Fin 4) : (s.fireWhole j).pass = s.pass :=
  fireWhole_keeps (P := fun t => t.pass = s.pass) (fun t j h => by rw [fireSet_pass, h]) s j rfl

@[simp] theorem handleGroup_uplinkClip (s : State) (g : List Cause) : (s.handleGroup g).uplinkClip = s.uplinkClip :=
  handleGroup_keeps (P := fun t => t.uplinkClip = s.uplinkClip) (fun t j h => by rw [fireSet_uplinkClip, h]) s g rfl

@[simp] theorem fireWhole_uplinkClip (s : State) (j : Fin 4) : (s.fireWhole j).uplinkClip = s.uplinkClip :=
  fireWhole_keeps (P := fun t => t.uplinkClip = s.uplinkClip) (fun t j h => by rw [fireSet_uplinkClip, h]) s j rfl

@[simp] theorem handleGroup_downClip (s : State) (g : List Cause) : (s.handleGroup g).downClip = s.downClip :=
  handleGroup_keeps (P := fun t => t.downClip = s.downClip) (fun t j h => by rw [fireSet_downClip, h]) s g rfl

@[simp] theorem fireWhole_downClip (s : State) (j : Fin 4) : (s.fireWhole j).downClip = s.downClip :=
  fireWhole_keeps (P := fun t => t.downClip = s.downClip) (fun t j h => by rw [fireSet_downClip, h]) s j rfl

@[simp] theorem handleGroup_ticks (s : State) (g : List Cause) : (s.handleGroup g).ticks = s.ticks :=
  handleGroup_keeps (P := fun t => t.ticks = s.ticks) (fun t j h => by rw [fireSet_ticks, h]) s g rfl

@[simp] theorem fireWhole_ticks (s : State) (j : Fin 4) : (s.fireWhole j).ticks = s.ticks :=
  fireWhole_keeps (P := fun t => t.ticks = s.ticks) (fun t j h => by rw [fireSet_ticks, h]) s j rfl

@[simp] theorem handleGroup_holdover (s : State) (g : List Cause) : (s.handleGroup g).holdover = s.holdover :=
  handleGroup_keeps (P := fun t => t.holdover = s.holdover) (fun t j h => by rw [fireSet_holdover, h]) s g rfl

@[simp] theorem fireWhole_holdover (s : State) (j : Fin 4) : (s.fireWhole j).holdover = s.holdover :=
  fireWhole_keeps (P := fun t => t.holdover = s.holdover) (fun t j h => by rw [fireSet_holdover, h]) s j rfl

@[simp] theorem handleGroup_pcm (s : State) (g : List Cause) : (s.handleGroup g).pcm = s.pcm :=
  handleGroup_keeps (P := fun t => t.pcm = s.pcm) (fun t j h => by rw [fireSet_pcm, h]) s g rfl

@[simp] theorem fireWhole_pcm (s : State) (j : Fin 4) : (s.fireWhole j).pcm = s.pcm :=
  fireWhole_keeps (P := fun t => t.pcm = s.pcm) (fun t j h => by rw [fireSet_pcm, h]) s j rfl

@[simp] theorem handleGroup_pending (s : State) (g : List Cause) : (s.handleGroup g).pending = s.pending :=
  handleGroup_keeps (P := fun t => t.pending = s.pending) (fun t j h => by rw [fireSet_pending, h]) s g rfl

@[simp] theorem fireWhole_pending (s : State) (j : Fin 4) : (s.fireWhole j).pending = s.pending :=
  fireWhole_keeps (P := fun t => t.pending = s.pending) (fun t j h => by rw [fireSet_pending, h]) s j rfl

end Sys2Proof.Machine
end

