-- ==== Sys2Proof/Laws/Control.lean ====
section
/-! SUPPORT. What the taking of a held request, the shifting of a transaction's bytes and the clocking in of a frame's bytes
can do, said once. -/

namespace Sys2Proof.Machine

open Sys2Proof

@[simp] theorem isReady_eq_true (s : State) : s.isReady = true ↔ s.phase = .ready := by
  simp [State.isReady]

@[simp] theorem isReady_eq_false (s : State) : s.isReady = false ↔ s.phase ≠ .ready := by
  simp [State.isReady]

/-- An event of a port on a part that is READY. -/
@[simp] theorem whenReady_of_ready (s : State) (f : State → State) (h : s.phase = .ready) : s.whenReady f = f s := by
  simp [State.whenReady, h]

/-- An event of a port before READY does nothing. -/
@[simp] theorem whenReady_of_not_ready (s : State) (f : State → State) (h : s.phase ≠ .ready) : s.whenReady f = s := by
  simp [State.whenReady, h]

/-- A response placed by the interface is the response placed. -/
theorem placeResponse_eq_responded (s : State) (code tag : Byte) (status : Status) (body : List Byte) :
    s.placeResponse { code, tag, status, body } = s.responded code tag status body := rfl

/-- The bytes of a request message of at most 64 bytes are framed. -/
theorem framed_requestBytes (code tag : Byte) (body : List Byte) (h : body.length ≤ 61) :
    ({ bytes := requestBytes code tag body, count := body.length + 3 } : HeldRequest).framed = some (tag, body) := by
  have hlen : (BitVec.ofNat 8 (body.length + 2)).toNat = body.length + 2 := by
    rw [BitVec.toNat_ofNat]
    omega
  have hle : body.length + 3 ≤ 64 := by omega
  simp [HeldRequest.framed, requestBytes, hlen, hle]

/-- The taking of a request that is held and framed: the owner's answer. -/
theorem takeRequest_of_holds {α : Type} {s : State} {code tag : Byte} {body : List Byte} {b : α}
    (body? : List Byte → Option α) (owner : State → α → Reply) (h : s.Holds code tag body) (hlen : body.length ≤ 61)
    (hb : body? body = some b) : s.takeRequest code body? owner = (owner s b).answer code tag := by
  obtain ⟨hready, hheld⟩ := h
  have hcode : HeldRequest.code? { bytes := requestBytes code tag body, count := body.length + 3 } = some code := rfl
  unfold State.takeRequest
  rw [whenReady_of_ready _ _ hready]
  simp only [hheld, hcode, framed_requestBytes code tag body hlen, Option.bind_some, hb, Option.map_some, if_true]

/-- A refusal is its status with an empty body. -/
@[simp] theorem answer_refuse (s : State) (status : Status) (code tag : Byte) :
    (refuse s status).answer code tag = s.responded code tag status [] := by
  simp [Reply.answer, refuse, State.placeResponse, State.responded]

/-- An answer that issues no cause: the owner's effect, with the response placed. -/
theorem answer_of_no_causes (p : Reply) (code tag : Byte) (h : p.causes = []) :
    p.answer code tag = p.st.responded code tag p.status p.body := by
  simp [Reply.answer, h, State.placeResponse, State.responded]

/-- All that the taking of a request can do: nothing, a BAD_REQUEST response, or the owner's answer to the held body. -/
theorem takeRequest_cases {α : Type} (s : State) (code : Byte) (body? : List Byte → Option α)
    (owner : State → α → Reply) :
    s.takeRequest code body? owner = s ∨
    (∃ h, s.phase = .ready ∧ s.iface = .executing h ∧ s.takeRequest code body? owner = s.placeResponse h.refusal) ∨
    ∃ h tag body b, s.phase = .ready ∧ s.iface = .executing h ∧ h.framed = some (tag, body) ∧ body? body = some b ∧
      s.takeRequest code body? owner = (owner s b).answer code tag := by
  by_cases hr : s.phase = .ready
  · unfold State.takeRequest
    rw [whenReady_of_ready _ _ hr]
    cases hi : s.iface with
    | idle => exact .inl rfl
    | responsePending _ => exact .inl rfl
    | executing h =>
      by_cases hc : h.code? = some code
      · simp only [hc, if_true]
        cases hf : h.framed with
        | none => exact .inr (.inl ⟨h, hr, rfl, by simp⟩)
        | some m =>
          cases hb : body? m.2 with
          | none => exact .inr (.inl ⟨h, hr, rfl, by simp [hb]⟩)
          | some b => exact .inr (.inr ⟨h, m.1, m.2, b, hr, rfl, hf, hb, by simp [hb]⟩)
      · exact .inl (by simp [hc])
  · exact .inl (by simp [State.takeRequest, hr])

/-! ## The bytes of a transaction -/

/-- With CS_N high no byte is shifted. -/
theorem shiftBytes_idle (s : State) (h : s.transaction = .idle) (bs : List Byte) : bs.foldl State.shiftByte s = s := by
  induction bs with
  | nil => rfl
  | cons b bs ih =>
    rw [List.foldl_cons]
    have : s.shiftByte b = s := by simp [State.shiftByte, h]
    rw [this, ih]

/-- A capacity kept at each part of a list is the capacity kept of the whole. -/
theorem take_take_append {α : Type} (n : Nat) (xs ys : List α) : (xs.take n ++ ys).take n = (xs ++ ys).take n := by
  rw [List.take_append, List.take_append, List.take_take, List.length_take, Nat.min_self]
  congr 2
  omega

/-- In a transaction that the part ignores MISO sends 0 for every byte. -/
theorem shiftBytes_ignored (s : State) (h : s.transaction = .ignored) (bs : List Byte) :
    bs.foldl State.shiftByte s = { s with miso := s.miso ++ List.replicate bs.length 0 } := by
  induction bs generalizing s with
  | nil => simp
  | cons b bs ih =>
    rw [List.foldl_cons]
    have : s.shiftByte b = { s with miso := s.miso ++ [0] } := by simp [State.shiftByte, State.misoByte, h]
    rw [this]
    refine (ih { s with miso := s.miso ++ [0] } h).trans ?_
    simp [List.replicate_succ]

/-- The bytes behind the type of a transaction: the first 64 are kept and all are counted, and MISO sends what the type
calls for. -/
theorem shiftBytes_taken (s : State) (t : TakenTransaction) (kind : Byte) (hr : s.phase = .ready)
    (h : s.transaction = .taken t) (hk : t.kind = some kind) (hb : t.bytes.length ≤ 64) (bs : List Byte) :
    bs.foldl State.shiftByte s =
      { s with
        transaction := .taken { t with bytes := (t.bytes ++ bs).take 64, count := t.count + bs.length }
        miso := s.miso ++ (List.range bs.length).map fun k => { t with count := t.count + k }.sendsNext } := by
  induction bs generalizing s t with
  | nil => simp [List.take_of_length_le hb, ← h]
  | cons b bs ih =>
    rw [List.foldl_cons]
    have hs : s.shiftByte b =
        { s with
          transaction := .taken { t with bytes := (t.bytes ++ [b]).take 64, count := t.count + 1 }
          miso := s.miso ++ [t.sendsNext] } := by
      simp [State.shiftByte, State.misoByte, TakenTransaction.shiftIn, h, hk, hr, State.isReady, Config.requestCapacity]
    rw [hs]
    refine (ih { s with transaction := _, miso := s.miso ++ [t.sendsNext] }
      { t with bytes := (t.bytes ++ [b]).take 64, count := t.count + 1 } hr rfl hk (by simp)).trans ?_
    simp [take_take_append, List.range_succ_eq_map, Function.comp_def, TakenTransaction.sendsNext, Nat.add_assoc, Nat.add_comm 1]

/-! ## The bytes of a frame -/

/-- Bytes clocked in in two parts are the bytes clocked in together. -/
theorem clockIn_clockIn (s : State) (first rest : List Byte) :
    (s.clockIn first).clockIn rest = s.clockIn (first ++ rest) := by
  cases h : s.reception <;> by_cases hr : s.phase = .ready <;>
    simp [State.clockIn, h, hr, State.isReady, Config.receiveCapacity, take_take_append, Nat.add_assoc]

end Sys2Proof.Machine
end

