-- ==== Sys2Proof/Laws/Events.lean ====
section
/-! SUPPORT. What an event's steps over the link records do to the part: every field of the part after each, once. -/

namespace Sys2Proof.Machine

open Sys2Proof

/-! ## One record -/

/-- The part after a step of the record in slot `i`: that slot, its change flag and the two notices, nothing else. -/
theorem stepLink_st (e : Event) (i : Fin 8) (p : LinkStep) :
    (e.stepLink i p).st = { e.st with
      slots := e.st.slots.set i (some p.record)
      linkChanges := e.st.linkChanges.set i (p.changed || e.st.linkChanges.get i)
      notices := { e.st.notices with
        link := p.changed || e.st.notices.link
        queue := p.lossy || e.st.notices.queue } } := rfl

@[simp] theorem stepLink_causes (e : Event) (i : Fin 8) (p : LinkStep) :
    (e.stepLink i p).causes = e.causes ++ p.causes := rfl

/-! ## All records -/

/-- The slot of a record after a step of all records. -/
@[simp] theorem stepLinks_slots (e : Event) (f : Fin 8 → LinkRecord → LinkStep) (i : Fin 8) :
    (e.stepLinks f).st.slots.get i = (e.st.slots.get i).map fun r => (f i r).record := by
  simp [Event.stepLinks]

/-- A link's change flag after a step of all records. -/
theorem stepLinks_linkChanges (e : Event) (f : Fin 8 → LinkRecord → LinkStep) (i : Fin 8) :
    (e.stepLinks f).st.linkChanges.get i = true ↔
      e.st.linkChanges.get i = true ∨ ∃ r, e.st.slots.get i = some r ∧ (f i r).changed = true := by
  simp only [Event.stepLinks, Bank.get_mapIdx, Bool.or_eq_true, Option.any_eq_true]

/-- The LINK notice after a step of all records. -/
theorem stepLinks_link (e : Event) (f : Fin 8 → LinkRecord → LinkStep) :
    (e.stepLinks f).st.notices.link = true ↔
      e.st.notices.link = true ∨ ∃ i r, e.st.slots.get i = some r ∧ (f i r).changed = true := by
  simp only [Event.stepLinks, Bool.or_eq_true, Bank.any_eq_true, Option.any_eq_true]

/-- The QUEUE notice after a step of all records. -/
theorem stepLinks_queue (e : Event) (f : Fin 8 → LinkRecord → LinkStep) :
    (e.stepLinks f).st.notices.queue = true ↔
      e.st.notices.queue = true ∨ ∃ i r, e.st.slots.get i = some r ∧ (f i r).lossy = true := by
  simp only [Event.stepLinks, Bool.or_eq_true, Bank.any_eq_true, Option.any_eq_true]

/-- The causes issued by a step of all records. -/
theorem mem_stepLinks_causes (e : Event) (f : Fin 8 → LinkRecord → LinkStep) (c : Cause) :
    c ∈ (e.stepLinks f).causes ↔
      c ∈ e.causes ∨ ∃ i r, e.st.slots.get i = some r ∧ c ∈ (f i r).causes := by
  simp only [Event.stepLinks, List.mem_append, List.mem_flatMap, List.mem_finRange, true_and]
  refine or_congr_right (exists_congr fun i => ?_)
  cases e.st.slots.get i <;> simp

/-- A step of all records changes nothing but the records, the change flags and the two notices. -/
theorem stepLinks_rest (e : Event) (f : Fin 8 → LinkRecord → LinkStep) :
    (e.stepLinks f).st = { e.st with
      slots := (e.stepLinks f).st.slots
      linkChanges := (e.stepLinks f).st.linkChanges
      notices := { e.st.notices with
        link := (e.stepLinks f).st.notices.link
        queue := (e.stepLinks f).st.notices.queue } } := rfl

/-- Where no step loses samples, the QUEUE notice stays. -/
theorem stepLinks_queue_of_not_lossy (e : Event) (f : Fin 8 → LinkRecord → LinkStep)
    (h : ∀ i r, (f i r).lossy = false) : (e.stepLinks f).st.notices.queue = e.st.notices.queue := by
  rw [Bool.eq_iff_iff, stepLinks_queue]
  simp [h]

/-- Where no step changes a state, the change flags stay. -/
theorem stepLinks_linkChanges_of_unchanged (e : Event) (f : Fin 8 → LinkRecord → LinkStep)
    (h : ∀ i r, (f i r).changed = false) : (e.stepLinks f).st.linkChanges = e.st.linkChanges := by
  ext i
  rw [Bool.eq_iff_iff, stepLinks_linkChanges]
  simp [h]

/-- Where no step changes a state, the LINK notice stays. -/
theorem stepLinks_link_of_unchanged (e : Event) (f : Fin 8 → LinkRecord → LinkStep)
    (h : ∀ i r, (f i r).changed = false) : (e.stepLinks f).st.notices.link = e.st.notices.link := by
  rw [Bool.eq_iff_iff, stepLinks_link]
  simp [h]

@[simp] theorem onState_st (e : Event) (f : State → State) : (e.onState f).st = f e.st := rfl

@[simp] theorem onState_causes (e : Event) (f : State → State) : (e.onState f).causes = e.causes := rfl

@[simp] theorem issue_st (e : Event) (c : Cause) : (e.issue c).st = e.st := rfl

@[simp] theorem issue_causes (e : Event) (c : Cause) : (e.issue c).causes = e.causes ++ [c] := rfl

/-! ## Small operations -/

@[simp] theorem hush_state (r : LinkRecord) : r.hush.state = r.state := rfl

/-- The lowest slot whose record holds a seat and side, characterised. -/
theorem holder_eq_some (slots : Bank 8 (Option LinkRecord)) (seat : Fin 4) (side : Side) (i : Fin 8) :
    holder slots seat side = some i ↔
      (∃ r, slots.get i = some r ∧ r.config.seat = seat ∧ r.config.side = side) ∧
        ∀ j < i, ∀ r, slots.get j = some r → ¬(r.config.seat = seat ∧ r.config.side = side) := by
  unfold holder
  rw [Bank.find?_eq_some]
  refine and_congr ?_ (forall₂_congr fun j _ => ?_)
  · cases slots.get i <;> simp
  · cases slots.get j <;> simp

/-- No record holds a seat and side. -/
theorem holder_eq_none (slots : Bank 8 (Option LinkRecord)) (seat : Fin 4) (side : Side) :
    holder slots seat side = none ↔
      ∀ i r, slots.get i = some r → ¬(r.config.seat = seat ∧ r.config.side = side) := by
  unfold holder
  rw [Bank.find?_eq_none]
  refine forall_congr' fun i => ?_
  cases slots.get i <;> simp

/-- The record with a handle at the lowest index, characterised (R9). -/
theorem recordOf_eq_some (s : State) (handle : Nat) (i : Fin 8) (r : LinkRecord) :
    s.recordOf handle = some (i, r) ↔
      s.slots.get i = some r ∧ r.config.handle.toNat = handle ∧
        ∀ j < i, ∀ q, s.slots.get j = some q → q.config.handle.toNat ≠ handle := by
  simp only [State.recordOf, State.byHandle, Option.bind_eq_some_iff, Option.map_eq_some_iff, Bank.find?_eq_some,
    Option.any_eq_true, Option.any_eq_false, beq_iff_eq, Prod.mk.injEq]
  constructor
  · rintro ⟨k, ⟨⟨q, hq, hh⟩, hlow⟩, r', hr', rfl, rfl⟩
    rw [hq] at hr'
    obtain rfl := Option.some.inj hr'
    exact ⟨hq, hh, fun j hj q hq' => by simpa using hlow j hj q hq'⟩
  · rintro ⟨hr, hh, hlow⟩
    exact ⟨i, ⟨⟨r, hr, hh⟩, fun j hj q hq => by simpa using hlow j hj q hq⟩, r, hr, rfl, rfl⟩

/-- No record holds a handle. -/
theorem recordOf_eq_none (s : State) (handle : Nat) :
    s.recordOf handle = none ↔ ∀ i r, s.slots.get i = some r → r.config.handle.toNat ≠ handle := by
  constructor
  · intro h i r hr hh
    unfold State.recordOf State.byHandle at h
    cases hf : s.slots.find? fun o => o.any fun r => r.config.handle.toNat == handle with
    | none => simpa [hr, hh] using (Bank.find?_eq_none _ _).mp hf i
    | some k =>
      have hk := Bank.find?_some_holds hf
      cases hq : s.slots.get k with
      | none => simp [hq] at hk
      | some q => simp [hf, hq] at h
  · intro h
    have : s.byHandle handle = none := (Bank.find?_eq_none _ _).mpr fun i => by
      cases hs : s.slots.get i with
      | none => rfl
      | some r => simpa using h i r hs
    simp [State.recordOf, this]

end Sys2Proof.Machine
end

