-- ==== Sys2Proof/Laws/Gains.lean ====
section
/-! SUPPORT. What the gains read after each way of writing them, by the gain's name; later proofs cite these and never
unfold a write of the gains. -/

namespace Sys2Proof.Machine

open Sys2Proof

/-- The fixed cell holds no ramped gain (R103). -/
@[simp] theorem get?_fixed (g : Gains) : g.get? (.cell .uplink .far) = none := rfl

/-- Every name but the fixed cell's names a ramped gain. -/
theorem get?_isSome (g : Gains) (name : GainName) : (g.get? name).isSome = !name.isFixed := by
  rcases name with ⟨_ | d, _ | t⟩ | o <;> rfl

/-- A write of one gain changes that gain and no other. -/
theorem get?_modify (g : Gains) (name other : GainName) (f : Gain → Gain) :
    (g.modify name f).get? other = if other = name then (g.get? name).map f else g.get? other := by
  by_cases h : other = name
  · subst h
    rw [if_pos rfl]
    rcases other with ⟨_ | d, _ | t⟩ | (_ | d) <;> simp [Gains.modify, Gains.get?, Gains.level]
  · rw [if_neg h]
    rcases name with ⟨_ | d, _ | t⟩ | (_ | d) <;> rcases other with ⟨_ | e, _ | u⟩ | (_ | e) <;>
      simp_all [Gains.modify, Gains.get?, Gains.level, Bank.get_set]
    split <;> simp_all

@[simp] theorem get?_modify_self (g : Gains) (name : GainName) (f : Gain → Gain) :
    (g.modify name f).get? name = (g.get? name).map f := by
  simp [get?_modify]

@[simp] theorem get?_modify_ne (g : Gains) {name other : GainName} (f : Gain → Gain) (h : other ≠ name) :
    (g.modify name f).get? other = g.get? other := by
  simp [get?_modify, h]

@[simp] theorem modify_ceiling (g : Gains) (name : GainName) (f : Gain → Gain) :
    (g.modify name f).ceiling = g.ceiling := by
  rcases name with ⟨_ | d, _ | t⟩ | (_ | d) <;> rfl

/-- A change of all gains changes each of them. -/
@[simp] theorem get?_mapAll (g : Gains) (f : Gain → Gain) (name : GainName) :
    (g.mapAll f).get? name = (g.get? name).map f := by
  rcases name with ⟨_ | d, _ | t⟩ | (_ | d) <;> simp [Gains.mapAll, Gains.get?, Gains.level]

@[simp] theorem mapAll_ceiling (g : Gains) (f : Gain → Gain) : (g.mapAll f).ceiling = g.ceiling := rfl

@[simp] theorem setCeiling_ceiling (g : Gains) (c : Nat) : (g.setCeiling c).ceiling = c := rfl

/-- A new sidetone ceiling reaches the own-voice cells alone, and those only where it is lower than the old one (R108). -/
theorem get?_setCeiling (g : Gains) (c : Nat) (name : GainName) :
    (g.setCeiling c).get? name =
      (g.get? name).map fun x => if name.isOwn ∧ c < g.ceiling then x.clampTo c else x := by
  rcases name with ⟨_ | d, _ | t⟩ | (_ | d) <;>
    simp [Gains.setCeiling, Gains.get?, Gains.level, GainName.isOwn]
  by_cases hc : c < g.ceiling
  · by_cases ht : t = d
    · simp [hc, ht]
    · simp [hc, ht, Ne.symm ht]
  · simp [hc]

end Sys2Proof.Machine
end

