-- ==== Sys2Proof/Laws/State.lean ====
section
/-! SUPPORT. One lemma per field of State per named update of the part: what the field holds after it. -/

namespace Sys2Proof.Machine

open Sys2Proof

variable (s : State)

/-! ### raise -/

@[simp] theorem raise_phase (k : NoticeKind) : (s.raise k).phase = s.phase := rfl
@[simp] theorem raise_iface (k : NoticeKind) : (s.raise k).iface = s.iface := rfl
@[simp] theorem raise_busy (k : NoticeKind) : (s.raise k).busy = s.busy := rfl
@[simp] theorem raise_transaction (k : NoticeKind) : (s.raise k).transaction = s.transaction := rfl
@[simp] theorem raise_miso (k : NoticeKind) : (s.raise k).miso = s.miso := rfl
@[simp] theorem raise_reception (k : NoticeKind) : (s.raise k).reception = s.reception := rfl
@[simp] theorem raise_notices (k : NoticeKind) : (s.raise k).notices = s.notices.raise k := rfl
@[simp] theorem raise_mask (k : NoticeKind) : (s.raise k).mask = s.mask := rfl
@[simp] theorem raise_linkChanges (k : NoticeKind) : (s.raise k).linkChanges = s.linkChanges := rfl
@[simp] theorem raise_seatChanges (k : NoticeKind) : (s.raise k).seatChanges = s.seatChanges := rfl
@[simp] theorem raise_slots (k : NoticeKind) : (s.raise k).slots = s.slots := rfl
@[simp] theorem raise_radio (k : NoticeKind) : (s.raise k).radio = s.radio := rfl
@[simp] theorem raise_arbiter (k : NoticeKind) : (s.raise k).arbiter = s.arbiter := rfl
@[simp] theorem raise_sending (k : NoticeKind) : (s.raise k).sending = s.sending := rfl
@[simp] theorem raise_seats (k : NoticeKind) : (s.raise k).seats = s.seats := rfl
@[simp] theorem raise_gains (k : NoticeKind) : (s.raise k).gains = s.gains := rfl
@[simp] theorem raise_engine (k : NoticeKind) : (s.raise k).engine = s.engine := rfl
@[simp] theorem raise_pass (k : NoticeKind) : (s.raise k).pass = s.pass := rfl
@[simp] theorem raise_uplinkClip (k : NoticeKind) : (s.raise k).uplinkClip = s.uplinkClip := rfl
@[simp] theorem raise_downClip (k : NoticeKind) : (s.raise k).downClip = s.downClip := rfl
@[simp] theorem raise_ticks (k : NoticeKind) : (s.raise k).ticks = s.ticks := rfl
@[simp] theorem raise_holdover (k : NoticeKind) : (s.raise k).holdover = s.holdover := rfl
@[simp] theorem raise_pcm (k : NoticeKind) : (s.raise k).pcm = s.pcm := rfl
@[simp] theorem raise_timers (k : NoticeKind) : (s.raise k).timers = s.timers := rfl
@[simp] theorem raise_cues (k : NoticeKind) : (s.raise k).cues = s.cues := rfl
@[simp] theorem raise_cueFault (k : NoticeKind) : (s.raise k).cueFault = s.cueFault := rfl
@[simp] theorem raise_pending (k : NoticeKind) : (s.raise k).pending = s.pending := rfl

/-! ### markLink -/

@[simp] theorem markLink_phase (i : Fin 8) : (s.markLink i).phase = s.phase := rfl
@[simp] theorem markLink_iface (i : Fin 8) : (s.markLink i).iface = s.iface := rfl
@[simp] theorem markLink_busy (i : Fin 8) : (s.markLink i).busy = s.busy := rfl
@[simp] theorem markLink_transaction (i : Fin 8) : (s.markLink i).transaction = s.transaction := rfl
@[simp] theorem markLink_miso (i : Fin 8) : (s.markLink i).miso = s.miso := rfl
@[simp] theorem markLink_reception (i : Fin 8) : (s.markLink i).reception = s.reception := rfl
@[simp] theorem markLink_notices (i : Fin 8) : (s.markLink i).notices = s.notices.raise .link := rfl
@[simp] theorem markLink_mask (i : Fin 8) : (s.markLink i).mask = s.mask := rfl
@[simp] theorem markLink_linkChanges (i : Fin 8) : (s.markLink i).linkChanges = s.linkChanges.set i true := rfl
@[simp] theorem markLink_seatChanges (i : Fin 8) : (s.markLink i).seatChanges = s.seatChanges := rfl
@[simp] theorem markLink_slots (i : Fin 8) : (s.markLink i).slots = s.slots := rfl
@[simp] theorem markLink_radio (i : Fin 8) : (s.markLink i).radio = s.radio := rfl
@[simp] theorem markLink_arbiter (i : Fin 8) : (s.markLink i).arbiter = s.arbiter := rfl
@[simp] theorem markLink_sending (i : Fin 8) : (s.markLink i).sending = s.sending := rfl
@[simp] theorem markLink_seats (i : Fin 8) : (s.markLink i).seats = s.seats := rfl
@[simp] theorem markLink_gains (i : Fin 8) : (s.markLink i).gains = s.gains := rfl
@[simp] theorem markLink_engine (i : Fin 8) : (s.markLink i).engine = s.engine := rfl
@[simp] theorem markLink_pass (i : Fin 8) : (s.markLink i).pass = s.pass := rfl
@[simp] theorem markLink_uplinkClip (i : Fin 8) : (s.markLink i).uplinkClip = s.uplinkClip := rfl
@[simp] theorem markLink_downClip (i : Fin 8) : (s.markLink i).downClip = s.downClip := rfl
@[simp] theorem markLink_ticks (i : Fin 8) : (s.markLink i).ticks = s.ticks := rfl
@[simp] theorem markLink_holdover (i : Fin 8) : (s.markLink i).holdover = s.holdover := rfl
@[simp] theorem markLink_pcm (i : Fin 8) : (s.markLink i).pcm = s.pcm := rfl
@[simp] theorem markLink_timers (i : Fin 8) : (s.markLink i).timers = s.timers := rfl
@[simp] theorem markLink_cues (i : Fin 8) : (s.markLink i).cues = s.cues := rfl
@[simp] theorem markLink_cueFault (i : Fin 8) : (s.markLink i).cueFault = s.cueFault := rfl
@[simp] theorem markLink_pending (i : Fin 8) : (s.markLink i).pending = s.pending := rfl

/-! ### onSeat -/

@[simp] theorem onSeat_phase (i : Fin 4) (f : SeatRecord → SeatRecord) : (s.onSeat i f).phase = s.phase := rfl
@[simp] theorem onSeat_iface (i : Fin 4) (f : SeatRecord → SeatRecord) : (s.onSeat i f).iface = s.iface := rfl
@[simp] theorem onSeat_busy (i : Fin 4) (f : SeatRecord → SeatRecord) : (s.onSeat i f).busy = s.busy := rfl
@[simp] theorem onSeat_transaction (i : Fin 4) (f : SeatRecord → SeatRecord) :
    (s.onSeat i f).transaction = s.transaction := rfl
@[simp] theorem onSeat_miso (i : Fin 4) (f : SeatRecord → SeatRecord) : (s.onSeat i f).miso = s.miso := rfl
@[simp] theorem onSeat_reception (i : Fin 4) (f : SeatRecord → SeatRecord) :
    (s.onSeat i f).reception = s.reception := rfl
@[simp] theorem onSeat_notices (i : Fin 4) (f : SeatRecord → SeatRecord) : (s.onSeat i f).notices = s.notices := rfl
@[simp] theorem onSeat_mask (i : Fin 4) (f : SeatRecord → SeatRecord) : (s.onSeat i f).mask = s.mask := rfl
@[simp] theorem onSeat_linkChanges (i : Fin 4) (f : SeatRecord → SeatRecord) :
    (s.onSeat i f).linkChanges = s.linkChanges := rfl
@[simp] theorem onSeat_seatChanges (i : Fin 4) (f : SeatRecord → SeatRecord) :
    (s.onSeat i f).seatChanges = s.seatChanges := rfl
@[simp] theorem onSeat_slots (i : Fin 4) (f : SeatRecord → SeatRecord) : (s.onSeat i f).slots = s.slots := rfl
@[simp] theorem onSeat_radio (i : Fin 4) (f : SeatRecord → SeatRecord) : (s.onSeat i f).radio = s.radio := rfl
@[simp] theorem onSeat_arbiter (i : Fin 4) (f : SeatRecord → SeatRecord) : (s.onSeat i f).arbiter = s.arbiter := rfl
@[simp] theorem onSeat_sending (i : Fin 4) (f : SeatRecord → SeatRecord) : (s.onSeat i f).sending = s.sending := rfl
@[simp] theorem onSeat_seats (i : Fin 4) (f : SeatRecord → SeatRecord) :
    (s.onSeat i f).seats = s.seats.set i (f (s.seats.get i)) := rfl
@[simp] theorem onSeat_gains (i : Fin 4) (f : SeatRecord → SeatRecord) : (s.onSeat i f).gains = s.gains := rfl
@[simp] theorem onSeat_engine (i : Fin 4) (f : SeatRecord → SeatRecord) : (s.onSeat i f).engine = s.engine := rfl
@[simp] theorem onSeat_pass (i : Fin 4) (f : SeatRecord → SeatRecord) : (s.onSeat i f).pass = s.pass := rfl
@[simp] theorem onSeat_uplinkClip (i : Fin 4) (f : SeatRecord → SeatRecord) :
    (s.onSeat i f).uplinkClip = s.uplinkClip := rfl
@[simp] theorem onSeat_downClip (i : Fin 4) (f : SeatRecord → SeatRecord) :
    (s.onSeat i f).downClip = s.downClip := rfl
@[simp] theorem onSeat_ticks (i : Fin 4) (f : SeatRecord → SeatRecord) : (s.onSeat i f).ticks = s.ticks := rfl
@[simp] theorem onSeat_holdover (i : Fin 4) (f : SeatRecord → SeatRecord) :
    (s.onSeat i f).holdover = s.holdover := rfl
@[simp] theorem onSeat_pcm (i : Fin 4) (f : SeatRecord → SeatRecord) : (s.onSeat i f).pcm = s.pcm := rfl
@[simp] theorem onSeat_timers (i : Fin 4) (f : SeatRecord → SeatRecord) : (s.onSeat i f).timers = s.timers := rfl
@[simp] theorem onSeat_cues (i : Fin 4) (f : SeatRecord → SeatRecord) : (s.onSeat i f).cues = s.cues := rfl
@[simp] theorem onSeat_cueFault (i : Fin 4) (f : SeatRecord → SeatRecord) :
    (s.onSeat i f).cueFault = s.cueFault := rfl
@[simp] theorem onSeat_pending (i : Fin 4) (f : SeatRecord → SeatRecord) : (s.onSeat i f).pending = s.pending := rfl

/-! ### onCue -/

@[simp] theorem onCue_phase (j : Fin 4) (f : CueSet → CueSet) : (s.onCue j f).phase = s.phase := rfl
@[simp] theorem onCue_iface (j : Fin 4) (f : CueSet → CueSet) : (s.onCue j f).iface = s.iface := rfl
@[simp] theorem onCue_busy (j : Fin 4) (f : CueSet → CueSet) : (s.onCue j f).busy = s.busy := rfl
@[simp] theorem onCue_transaction (j : Fin 4) (f : CueSet → CueSet) :
    (s.onCue j f).transaction = s.transaction := rfl
@[simp] theorem onCue_miso (j : Fin 4) (f : CueSet → CueSet) : (s.onCue j f).miso = s.miso := rfl
@[simp] theorem onCue_reception (j : Fin 4) (f : CueSet → CueSet) : (s.onCue j f).reception = s.reception := rfl
@[simp] theorem onCue_notices (j : Fin 4) (f : CueSet → CueSet) : (s.onCue j f).notices = s.notices := rfl
@[simp] theorem onCue_mask (j : Fin 4) (f : CueSet → CueSet) : (s.onCue j f).mask = s.mask := rfl
@[simp] theorem onCue_linkChanges (j : Fin 4) (f : CueSet → CueSet) :
    (s.onCue j f).linkChanges = s.linkChanges := rfl
@[simp] theorem onCue_seatChanges (j : Fin 4) (f : CueSet → CueSet) :
    (s.onCue j f).seatChanges = s.seatChanges := rfl
@[simp] theorem onCue_slots (j : Fin 4) (f : CueSet → CueSet) : (s.onCue j f).slots = s.slots := rfl
@[simp] theorem onCue_radio (j : Fin 4) (f : CueSet → CueSet) : (s.onCue j f).radio = s.radio := rfl
@[simp] theorem onCue_arbiter (j : Fin 4) (f : CueSet → CueSet) : (s.onCue j f).arbiter = s.arbiter := rfl
@[simp] theorem onCue_sending (j : Fin 4) (f : CueSet → CueSet) : (s.onCue j f).sending = s.sending := rfl
@[simp] theorem onCue_seats (j : Fin 4) (f : CueSet → CueSet) : (s.onCue j f).seats = s.seats := rfl
@[simp] theorem onCue_gains (j : Fin 4) (f : CueSet → CueSet) : (s.onCue j f).gains = s.gains := rfl
@[simp] theorem onCue_engine (j : Fin 4) (f : CueSet → CueSet) : (s.onCue j f).engine = s.engine := rfl
@[simp] theorem onCue_pass (j : Fin 4) (f : CueSet → CueSet) : (s.onCue j f).pass = s.pass := rfl
@[simp] theorem onCue_uplinkClip (j : Fin 4) (f : CueSet → CueSet) : (s.onCue j f).uplinkClip = s.uplinkClip := rfl
@[simp] theorem onCue_downClip (j : Fin 4) (f : CueSet → CueSet) : (s.onCue j f).downClip = s.downClip := rfl
@[simp] theorem onCue_ticks (j : Fin 4) (f : CueSet → CueSet) : (s.onCue j f).ticks = s.ticks := rfl
@[simp] theorem onCue_holdover (j : Fin 4) (f : CueSet → CueSet) : (s.onCue j f).holdover = s.holdover := rfl
@[simp] theorem onCue_pcm (j : Fin 4) (f : CueSet → CueSet) : (s.onCue j f).pcm = s.pcm := rfl
@[simp] theorem onCue_timers (j : Fin 4) (f : CueSet → CueSet) : (s.onCue j f).timers = s.timers := rfl
@[simp] theorem onCue_cues (j : Fin 4) (f : CueSet → CueSet) :
    (s.onCue j f).cues = s.cues.set j (f (s.cues.get j)) := rfl
@[simp] theorem onCue_cueFault (j : Fin 4) (f : CueSet → CueSet) : (s.onCue j f).cueFault = s.cueFault := rfl
@[simp] theorem onCue_pending (j : Fin 4) (f : CueSet → CueSet) : (s.onCue j f).pending = s.pending := rfl

/-! ### placeResponse -/

@[simp] theorem placeResponse_phase (r : Response) : (s.placeResponse r).phase = s.phase := rfl
@[simp] theorem placeResponse_iface (r : Response) : (s.placeResponse r).iface = .responsePending r := rfl
@[simp] theorem placeResponse_busy (r : Response) : (s.placeResponse r).busy = s.busy := rfl
@[simp] theorem placeResponse_transaction (r : Response) : (s.placeResponse r).transaction = s.transaction := rfl
@[simp] theorem placeResponse_miso (r : Response) : (s.placeResponse r).miso = s.miso := rfl
@[simp] theorem placeResponse_reception (r : Response) : (s.placeResponse r).reception = s.reception := rfl
@[simp] theorem placeResponse_notices (r : Response) : (s.placeResponse r).notices = s.notices := rfl
@[simp] theorem placeResponse_mask (r : Response) : (s.placeResponse r).mask = s.mask := rfl
@[simp] theorem placeResponse_linkChanges (r : Response) : (s.placeResponse r).linkChanges = s.linkChanges := rfl
@[simp] theorem placeResponse_seatChanges (r : Response) : (s.placeResponse r).seatChanges = s.seatChanges := rfl
@[simp] theorem placeResponse_slots (r : Response) : (s.placeResponse r).slots = s.slots := rfl
@[simp] theorem placeResponse_radio (r : Response) : (s.placeResponse r).radio = s.radio := rfl
@[simp] theorem placeResponse_arbiter (r : Response) : (s.placeResponse r).arbiter = s.arbiter := rfl
@[simp] theorem placeResponse_sending (r : Response) : (s.placeResponse r).sending = s.sending := rfl
@[simp] theorem placeResponse_seats (r : Response) : (s.placeResponse r).seats = s.seats := rfl
@[simp] theorem placeResponse_gains (r : Response) : (s.placeResponse r).gains = s.gains := rfl
@[simp] theorem placeResponse_engine (r : Response) : (s.placeResponse r).engine = s.engine := rfl
@[simp] theorem placeResponse_pass (r : Response) : (s.placeResponse r).pass = s.pass := rfl
@[simp] theorem placeResponse_uplinkClip (r : Response) : (s.placeResponse r).uplinkClip = s.uplinkClip := rfl
@[simp] theorem placeResponse_downClip (r : Response) : (s.placeResponse r).downClip = s.downClip := rfl
@[simp] theorem placeResponse_ticks (r : Response) : (s.placeResponse r).ticks = s.ticks := rfl
@[simp] theorem placeResponse_holdover (r : Response) : (s.placeResponse r).holdover = s.holdover := rfl
@[simp] theorem placeResponse_pcm (r : Response) : (s.placeResponse r).pcm = s.pcm := rfl
@[simp] theorem placeResponse_timers (r : Response) : (s.placeResponse r).timers = s.timers := rfl
@[simp] theorem placeResponse_cues (r : Response) : (s.placeResponse r).cues = s.cues := rfl
@[simp] theorem placeResponse_cueFault (r : Response) : (s.placeResponse r).cueFault = s.cueFault := rfl
@[simp] theorem placeResponse_pending (r : Response) : (s.placeResponse r).pending = s.pending := rfl

/-! ### clockIn -/

@[simp] theorem clockIn_phase (bytes : List Byte) : (s.clockIn bytes).phase = s.phase := rfl
@[simp] theorem clockIn_iface (bytes : List Byte) : (s.clockIn bytes).iface = s.iface := rfl
@[simp] theorem clockIn_busy (bytes : List Byte) : (s.clockIn bytes).busy = s.busy := rfl
@[simp] theorem clockIn_transaction (bytes : List Byte) : (s.clockIn bytes).transaction = s.transaction := rfl
@[simp] theorem clockIn_miso (bytes : List Byte) : (s.clockIn bytes).miso = s.miso := rfl
@[simp] theorem clockIn_notices (bytes : List Byte) : (s.clockIn bytes).notices = s.notices := rfl
@[simp] theorem clockIn_mask (bytes : List Byte) : (s.clockIn bytes).mask = s.mask := rfl
@[simp] theorem clockIn_linkChanges (bytes : List Byte) : (s.clockIn bytes).linkChanges = s.linkChanges := rfl
@[simp] theorem clockIn_seatChanges (bytes : List Byte) : (s.clockIn bytes).seatChanges = s.seatChanges := rfl
@[simp] theorem clockIn_slots (bytes : List Byte) : (s.clockIn bytes).slots = s.slots := rfl
@[simp] theorem clockIn_radio (bytes : List Byte) : (s.clockIn bytes).radio = s.radio := rfl
@[simp] theorem clockIn_arbiter (bytes : List Byte) : (s.clockIn bytes).arbiter = s.arbiter := rfl
@[simp] theorem clockIn_sending (bytes : List Byte) : (s.clockIn bytes).sending = s.sending := rfl
@[simp] theorem clockIn_seats (bytes : List Byte) : (s.clockIn bytes).seats = s.seats := rfl
@[simp] theorem clockIn_gains (bytes : List Byte) : (s.clockIn bytes).gains = s.gains := rfl
@[simp] theorem clockIn_engine (bytes : List Byte) : (s.clockIn bytes).engine = s.engine := rfl
@[simp] theorem clockIn_pass (bytes : List Byte) : (s.clockIn bytes).pass = s.pass := rfl
@[simp] theorem clockIn_uplinkClip (bytes : List Byte) : (s.clockIn bytes).uplinkClip = s.uplinkClip := rfl
@[simp] theorem clockIn_downClip (bytes : List Byte) : (s.clockIn bytes).downClip = s.downClip := rfl
@[simp] theorem clockIn_ticks (bytes : List Byte) : (s.clockIn bytes).ticks = s.ticks := rfl
@[simp] theorem clockIn_holdover (bytes : List Byte) : (s.clockIn bytes).holdover = s.holdover := rfl
@[simp] theorem clockIn_pcm (bytes : List Byte) : (s.clockIn bytes).pcm = s.pcm := rfl
@[simp] theorem clockIn_timers (bytes : List Byte) : (s.clockIn bytes).timers = s.timers := rfl
@[simp] theorem clockIn_cues (bytes : List Byte) : (s.clockIn bytes).cues = s.cues := rfl
@[simp] theorem clockIn_cueFault (bytes : List Byte) : (s.clockIn bytes).cueFault = s.cueFault := rfl
@[simp] theorem clockIn_pending (bytes : List Byte) : (s.clockIn bytes).pending = s.pending := rfl

/-! ### countRadio -/

@[simp] theorem countRadio_phase (f : RadioCounters → RadioCounters) : (s.countRadio f).phase = s.phase := rfl
@[simp] theorem countRadio_iface (f : RadioCounters → RadioCounters) : (s.countRadio f).iface = s.iface := rfl
@[simp] theorem countRadio_busy (f : RadioCounters → RadioCounters) : (s.countRadio f).busy = s.busy := rfl
@[simp] theorem countRadio_transaction (f : RadioCounters → RadioCounters) :
    (s.countRadio f).transaction = s.transaction := rfl
@[simp] theorem countRadio_miso (f : RadioCounters → RadioCounters) : (s.countRadio f).miso = s.miso := rfl
@[simp] theorem countRadio_reception (f : RadioCounters → RadioCounters) :
    (s.countRadio f).reception = s.reception := rfl
@[simp] theorem countRadio_notices (f : RadioCounters → RadioCounters) : (s.countRadio f).notices = s.notices := rfl
@[simp] theorem countRadio_mask (f : RadioCounters → RadioCounters) : (s.countRadio f).mask = s.mask := rfl
@[simp] theorem countRadio_linkChanges (f : RadioCounters → RadioCounters) :
    (s.countRadio f).linkChanges = s.linkChanges := rfl
@[simp] theorem countRadio_seatChanges (f : RadioCounters → RadioCounters) :
    (s.countRadio f).seatChanges = s.seatChanges := rfl
@[simp] theorem countRadio_slots (f : RadioCounters → RadioCounters) : (s.countRadio f).slots = s.slots := rfl
@[simp] theorem countRadio_radio (f : RadioCounters → RadioCounters) : (s.countRadio f).radio = f s.radio := rfl
@[simp] theorem countRadio_arbiter (f : RadioCounters → RadioCounters) : (s.countRadio f).arbiter = s.arbiter := rfl
@[simp] theorem countRadio_sending (f : RadioCounters → RadioCounters) : (s.countRadio f).sending = s.sending := rfl
@[simp] theorem countRadio_seats (f : RadioCounters → RadioCounters) : (s.countRadio f).seats = s.seats := rfl
@[simp] theorem countRadio_gains (f : RadioCounters → RadioCounters) : (s.countRadio f).gains = s.gains := rfl
@[simp] theorem countRadio_engine (f : RadioCounters → RadioCounters) : (s.countRadio f).engine = s.engine := rfl
@[simp] theorem countRadio_pass (f : RadioCounters → RadioCounters) : (s.countRadio f).pass = s.pass := rfl
@[simp] theorem countRadio_uplinkClip (f : RadioCounters → RadioCounters) :
    (s.countRadio f).uplinkClip = s.uplinkClip := rfl
@[simp] theorem countRadio_downClip (f : RadioCounters → RadioCounters) :
    (s.countRadio f).downClip = s.downClip := rfl
@[simp] theorem countRadio_ticks (f : RadioCounters → RadioCounters) : (s.countRadio f).ticks = s.ticks := rfl
@[simp] theorem countRadio_holdover (f : RadioCounters → RadioCounters) :
    (s.countRadio f).holdover = s.holdover := rfl
@[simp] theorem countRadio_pcm (f : RadioCounters → RadioCounters) : (s.countRadio f).pcm = s.pcm := rfl
@[simp] theorem countRadio_timers (f : RadioCounters → RadioCounters) : (s.countRadio f).timers = s.timers := rfl
@[simp] theorem countRadio_cues (f : RadioCounters → RadioCounters) : (s.countRadio f).cues = s.cues := rfl
@[simp] theorem countRadio_cueFault (f : RadioCounters → RadioCounters) :
    (s.countRadio f).cueFault = s.cueFault := rfl
@[simp] theorem countRadio_pending (f : RadioCounters → RadioCounters) : (s.countRadio f).pending = s.pending := rfl

/-! ### retire -/

@[simp] theorem retire_phase (i : Fin 8) : (s.retire i).phase = s.phase := rfl
@[simp] theorem retire_iface (i : Fin 8) : (s.retire i).iface = s.iface := rfl
@[simp] theorem retire_busy (i : Fin 8) : (s.retire i).busy = s.busy := rfl
@[simp] theorem retire_transaction (i : Fin 8) : (s.retire i).transaction = s.transaction := rfl
@[simp] theorem retire_miso (i : Fin 8) : (s.retire i).miso = s.miso := rfl
@[simp] theorem retire_reception (i : Fin 8) : (s.retire i).reception = s.reception := rfl
@[simp] theorem retire_notices (i : Fin 8) : (s.retire i).notices = s.notices.raise .link := rfl
@[simp] theorem retire_mask (i : Fin 8) : (s.retire i).mask = s.mask := rfl
@[simp] theorem retire_linkChanges (i : Fin 8) : (s.retire i).linkChanges = s.linkChanges.set i true := rfl
@[simp] theorem retire_seatChanges (i : Fin 8) : (s.retire i).seatChanges = s.seatChanges := rfl
@[simp] theorem retire_slots (i : Fin 8) : (s.retire i).slots = s.slots.set i none := rfl
@[simp] theorem retire_radio (i : Fin 8) : (s.retire i).radio = s.radio := rfl
@[simp] theorem retire_arbiter (i : Fin 8) : (s.retire i).arbiter = s.arbiter := rfl
@[simp] theorem retire_sending (i : Fin 8) : (s.retire i).sending = s.sending := rfl
@[simp] theorem retire_seats (i : Fin 8) : (s.retire i).seats = s.seats := rfl
@[simp] theorem retire_gains (i : Fin 8) : (s.retire i).gains = s.gains := rfl
@[simp] theorem retire_engine (i : Fin 8) : (s.retire i).engine = s.engine := rfl
@[simp] theorem retire_pass (i : Fin 8) : (s.retire i).pass = s.pass := rfl
@[simp] theorem retire_uplinkClip (i : Fin 8) : (s.retire i).uplinkClip = s.uplinkClip := rfl
@[simp] theorem retire_downClip (i : Fin 8) : (s.retire i).downClip = s.downClip := rfl
@[simp] theorem retire_ticks (i : Fin 8) : (s.retire i).ticks = s.ticks := rfl
@[simp] theorem retire_holdover (i : Fin 8) : (s.retire i).holdover = s.holdover := rfl
@[simp] theorem retire_pcm (i : Fin 8) : (s.retire i).pcm = s.pcm := rfl
@[simp] theorem retire_timers (i : Fin 8) : (s.retire i).timers = s.timers := rfl
@[simp] theorem retire_cues (i : Fin 8) : (s.retire i).cues = s.cues := rfl
@[simp] theorem retire_cueFault (i : Fin 8) : (s.retire i).cueFault = s.cueFault := rfl
@[simp] theorem retire_pending (i : Fin 8) : (s.retire i).pending = s.pending := rfl

/-! ### admitTo -/

@[simp] theorem admitTo_phase (i : Fin 8) (c : LinkConfig) : (s.admitTo i c).phase = s.phase := rfl
@[simp] theorem admitTo_iface (i : Fin 8) (c : LinkConfig) : (s.admitTo i c).iface = s.iface := rfl
@[simp] theorem admitTo_busy (i : Fin 8) (c : LinkConfig) : (s.admitTo i c).busy = s.busy := rfl
@[simp] theorem admitTo_transaction (i : Fin 8) (c : LinkConfig) : (s.admitTo i c).transaction = s.transaction := rfl
@[simp] theorem admitTo_miso (i : Fin 8) (c : LinkConfig) : (s.admitTo i c).miso = s.miso := rfl
@[simp] theorem admitTo_reception (i : Fin 8) (c : LinkConfig) : (s.admitTo i c).reception = s.reception := rfl
@[simp] theorem admitTo_notices (i : Fin 8) (c : LinkConfig) : (s.admitTo i c).notices = s.notices.raise .link := rfl
@[simp] theorem admitTo_mask (i : Fin 8) (c : LinkConfig) : (s.admitTo i c).mask = s.mask := rfl
@[simp] theorem admitTo_linkChanges (i : Fin 8) (c : LinkConfig) :
    (s.admitTo i c).linkChanges = s.linkChanges.set i true := rfl
@[simp] theorem admitTo_seatChanges (i : Fin 8) (c : LinkConfig) : (s.admitTo i c).seatChanges = s.seatChanges := rfl
@[simp] theorem admitTo_slots (i : Fin 8) (c : LinkConfig) :
    (s.admitTo i c).slots = s.slots.set i (some (LinkRecord.admitted c)) := rfl
@[simp] theorem admitTo_radio (i : Fin 8) (c : LinkConfig) : (s.admitTo i c).radio = s.radio := rfl
@[simp] theorem admitTo_arbiter (i : Fin 8) (c : LinkConfig) : (s.admitTo i c).arbiter = s.arbiter := rfl
@[simp] theorem admitTo_sending (i : Fin 8) (c : LinkConfig) : (s.admitTo i c).sending = s.sending := rfl
@[simp] theorem admitTo_seats (i : Fin 8) (c : LinkConfig) : (s.admitTo i c).seats = s.seats := rfl
@[simp] theorem admitTo_gains (i : Fin 8) (c : LinkConfig) : (s.admitTo i c).gains = s.gains := rfl
@[simp] theorem admitTo_engine (i : Fin 8) (c : LinkConfig) : (s.admitTo i c).engine = s.engine := rfl
@[simp] theorem admitTo_pass (i : Fin 8) (c : LinkConfig) : (s.admitTo i c).pass = s.pass := rfl
@[simp] theorem admitTo_uplinkClip (i : Fin 8) (c : LinkConfig) : (s.admitTo i c).uplinkClip = s.uplinkClip := rfl
@[simp] theorem admitTo_downClip (i : Fin 8) (c : LinkConfig) : (s.admitTo i c).downClip = s.downClip := rfl
@[simp] theorem admitTo_ticks (i : Fin 8) (c : LinkConfig) : (s.admitTo i c).ticks = s.ticks := rfl
@[simp] theorem admitTo_holdover (i : Fin 8) (c : LinkConfig) : (s.admitTo i c).holdover = s.holdover := rfl
@[simp] theorem admitTo_pcm (i : Fin 8) (c : LinkConfig) : (s.admitTo i c).pcm = s.pcm := rfl
@[simp] theorem admitTo_timers (i : Fin 8) (c : LinkConfig) : (s.admitTo i c).timers = s.timers := rfl
@[simp] theorem admitTo_cues (i : Fin 8) (c : LinkConfig) : (s.admitTo i c).cues = s.cues := rfl
@[simp] theorem admitTo_cueFault (i : Fin 8) (c : LinkConfig) : (s.admitTo i c).cueFault = s.cueFault := rfl
@[simp] theorem admitTo_pending (i : Fin 8) (c : LinkConfig) : (s.admitTo i c).pending = s.pending := rfl

/-! ### mapClips -/

@[simp] theorem mapClips_phase (f : Output → ClipState → ClipState) : (s.mapClips f).phase = s.phase := rfl
@[simp] theorem mapClips_iface (f : Output → ClipState → ClipState) : (s.mapClips f).iface = s.iface := rfl
@[simp] theorem mapClips_busy (f : Output → ClipState → ClipState) : (s.mapClips f).busy = s.busy := rfl
@[simp] theorem mapClips_transaction (f : Output → ClipState → ClipState) :
    (s.mapClips f).transaction = s.transaction := rfl
@[simp] theorem mapClips_miso (f : Output → ClipState → ClipState) : (s.mapClips f).miso = s.miso := rfl
@[simp] theorem mapClips_reception (f : Output → ClipState → ClipState) : (s.mapClips f).reception = s.reception := rfl
@[simp] theorem mapClips_notices (f : Output → ClipState → ClipState) : (s.mapClips f).notices = s.notices := rfl
@[simp] theorem mapClips_mask (f : Output → ClipState → ClipState) : (s.mapClips f).mask = s.mask := rfl
@[simp] theorem mapClips_linkChanges (f : Output → ClipState → ClipState) :
    (s.mapClips f).linkChanges = s.linkChanges := rfl
@[simp] theorem mapClips_seatChanges (f : Output → ClipState → ClipState) :
    (s.mapClips f).seatChanges = s.seatChanges := rfl
@[simp] theorem mapClips_slots (f : Output → ClipState → ClipState) : (s.mapClips f).slots = s.slots := rfl
@[simp] theorem mapClips_radio (f : Output → ClipState → ClipState) : (s.mapClips f).radio = s.radio := rfl
@[simp] theorem mapClips_arbiter (f : Output → ClipState → ClipState) : (s.mapClips f).arbiter = s.arbiter := rfl
@[simp] theorem mapClips_sending (f : Output → ClipState → ClipState) : (s.mapClips f).sending = s.sending := rfl
@[simp] theorem mapClips_seats (f : Output → ClipState → ClipState) : (s.mapClips f).seats = s.seats := rfl
@[simp] theorem mapClips_gains (f : Output → ClipState → ClipState) : (s.mapClips f).gains = s.gains := rfl
@[simp] theorem mapClips_engine (f : Output → ClipState → ClipState) : (s.mapClips f).engine = s.engine := rfl
@[simp] theorem mapClips_pass (f : Output → ClipState → ClipState) : (s.mapClips f).pass = s.pass := rfl
@[simp] theorem mapClips_uplinkClip (f : Output → ClipState → ClipState) :
    (s.mapClips f).uplinkClip = f .uplink s.uplinkClip := rfl
@[simp] theorem mapClips_downClip (f : Output → ClipState → ClipState) :
    (s.mapClips f).downClip = s.downClip.mapIdx fun i c => f (.down i) c := rfl
@[simp] theorem mapClips_ticks (f : Output → ClipState → ClipState) : (s.mapClips f).ticks = s.ticks := rfl
@[simp] theorem mapClips_holdover (f : Output → ClipState → ClipState) : (s.mapClips f).holdover = s.holdover := rfl
@[simp] theorem mapClips_pcm (f : Output → ClipState → ClipState) : (s.mapClips f).pcm = s.pcm := rfl
@[simp] theorem mapClips_timers (f : Output → ClipState → ClipState) : (s.mapClips f).timers = s.timers := rfl
@[simp] theorem mapClips_cues (f : Output → ClipState → ClipState) : (s.mapClips f).cues = s.cues := rfl
@[simp] theorem mapClips_cueFault (f : Output → ClipState → ClipState) : (s.mapClips f).cueFault = s.cueFault := rfl
@[simp] theorem mapClips_pending (f : Output → ClipState → ClipState) : (s.mapClips f).pending = s.pending := rfl

/-! ### stopEngine -/

@[simp] theorem stopEngine_phase : (s.stopEngine).phase = s.phase := rfl
@[simp] theorem stopEngine_iface : (s.stopEngine).iface = s.iface := rfl
@[simp] theorem stopEngine_busy : (s.stopEngine).busy = s.busy := rfl
@[simp] theorem stopEngine_transaction : (s.stopEngine).transaction = s.transaction := rfl
@[simp] theorem stopEngine_miso : (s.stopEngine).miso = s.miso := rfl
@[simp] theorem stopEngine_reception : (s.stopEngine).reception = s.reception := rfl
@[simp] theorem stopEngine_notices : (s.stopEngine).notices = s.notices := rfl
@[simp] theorem stopEngine_mask : (s.stopEngine).mask = s.mask := rfl
@[simp] theorem stopEngine_linkChanges : (s.stopEngine).linkChanges = s.linkChanges := rfl
@[simp] theorem stopEngine_seatChanges : (s.stopEngine).seatChanges = s.seatChanges := rfl
@[simp] theorem stopEngine_slots : (s.stopEngine).slots = s.slots := rfl
@[simp] theorem stopEngine_radio : (s.stopEngine).radio = s.radio := rfl
@[simp] theorem stopEngine_arbiter : (s.stopEngine).arbiter = s.arbiter := rfl
@[simp] theorem stopEngine_sending : (s.stopEngine).sending = s.sending := rfl
@[simp] theorem stopEngine_seats : (s.stopEngine).seats = s.seats.map SeatRecord.endCall := rfl
@[simp] theorem stopEngine_gains : (s.stopEngine).gains = s.gains.endCall := rfl
@[simp] theorem stopEngine_engine : (s.stopEngine).engine = .stopped := rfl
@[simp] theorem stopEngine_pass : (s.stopEngine).pass = none := rfl
@[simp] theorem stopEngine_uplinkClip : (s.stopEngine).uplinkClip = s.uplinkClip := rfl
@[simp] theorem stopEngine_downClip : (s.stopEngine).downClip = s.downClip := rfl
@[simp] theorem stopEngine_ticks : (s.stopEngine).ticks = 0 := rfl
@[simp] theorem stopEngine_holdover : (s.stopEngine).holdover = 0 := rfl
@[simp] theorem stopEngine_pcm : (s.stopEngine).pcm = s.pcm.endCall := rfl
@[simp] theorem stopEngine_timers : (s.stopEngine).timers = s.timers := rfl
@[simp] theorem stopEngine_cues : (s.stopEngine).cues = s.cues := rfl
@[simp] theorem stopEngine_cueFault : (s.stopEngine).cueFault = s.cueFault := rfl
@[simp] theorem stopEngine_pending : (s.stopEngine).pending = s.pending := rfl

/-! ### rampAndAdvance -/

@[simp] theorem rampAndAdvance_phase : (s.rampAndAdvance).phase = s.phase := rfl
@[simp] theorem rampAndAdvance_iface : (s.rampAndAdvance).iface = s.iface := rfl
@[simp] theorem rampAndAdvance_busy : (s.rampAndAdvance).busy = s.busy := rfl
@[simp] theorem rampAndAdvance_transaction : (s.rampAndAdvance).transaction = s.transaction := rfl
@[simp] theorem rampAndAdvance_miso : (s.rampAndAdvance).miso = s.miso := rfl
@[simp] theorem rampAndAdvance_reception : (s.rampAndAdvance).reception = s.reception := rfl
@[simp] theorem rampAndAdvance_notices : (s.rampAndAdvance).notices = s.notices := rfl
@[simp] theorem rampAndAdvance_mask : (s.rampAndAdvance).mask = s.mask := rfl
@[simp] theorem rampAndAdvance_linkChanges : (s.rampAndAdvance).linkChanges = s.linkChanges := rfl
@[simp] theorem rampAndAdvance_seatChanges : (s.rampAndAdvance).seatChanges = s.seatChanges := rfl
@[simp] theorem rampAndAdvance_slots : (s.rampAndAdvance).slots = s.slots := rfl
@[simp] theorem rampAndAdvance_radio : (s.rampAndAdvance).radio = s.radio := rfl
@[simp] theorem rampAndAdvance_arbiter : (s.rampAndAdvance).arbiter = s.arbiter := rfl
@[simp] theorem rampAndAdvance_sending : (s.rampAndAdvance).sending = s.sending := rfl
@[simp] theorem rampAndAdvance_seats : (s.rampAndAdvance).seats = s.seats.map SeatRecord.advance := rfl
@[simp] theorem rampAndAdvance_gains : (s.rampAndAdvance).gains = s.gains.ramp := rfl
@[simp] theorem rampAndAdvance_engine : (s.rampAndAdvance).engine = s.engine := rfl
@[simp] theorem rampAndAdvance_pass : (s.rampAndAdvance).pass = s.pass := rfl
@[simp] theorem rampAndAdvance_uplinkClip : (s.rampAndAdvance).uplinkClip = s.uplinkClip := rfl
@[simp] theorem rampAndAdvance_downClip : (s.rampAndAdvance).downClip = s.downClip := rfl
@[simp] theorem rampAndAdvance_ticks : (s.rampAndAdvance).ticks = s.ticks := rfl
@[simp] theorem rampAndAdvance_holdover : (s.rampAndAdvance).holdover = s.holdover := rfl
@[simp] theorem rampAndAdvance_pcm : (s.rampAndAdvance).pcm = s.pcm := rfl
@[simp] theorem rampAndAdvance_timers : (s.rampAndAdvance).timers = s.timers := rfl
@[simp] theorem rampAndAdvance_cues : (s.rampAndAdvance).cues = s.cues := rfl
@[simp] theorem rampAndAdvance_cueFault : (s.rampAndAdvance).cueFault = s.cueFault := rfl
@[simp] theorem rampAndAdvance_pending : (s.rampAndAdvance).pending = s.pending := rfl

/-! ### resetTo -/

@[simp] theorem resetTo_phase (p : Phase) : (s.resetTo p).phase = p := rfl
@[simp] theorem resetTo_iface (p : Phase) : (s.resetTo p).iface = State.reset.iface := rfl
@[simp] theorem resetTo_busy (p : Phase) : (s.resetTo p).busy = State.reset.busy := rfl
@[simp] theorem resetTo_transaction (p : Phase) : (s.resetTo p).transaction = s.transaction.abandoned := rfl
@[simp] theorem resetTo_miso (p : Phase) : (s.resetTo p).miso = s.miso := rfl
@[simp] theorem resetTo_reception (p : Phase) : (s.resetTo p).reception = s.reception.discarded := rfl
@[simp] theorem resetTo_notices (p : Phase) : (s.resetTo p).notices = State.reset.notices := rfl
@[simp] theorem resetTo_mask (p : Phase) : (s.resetTo p).mask = State.reset.mask := rfl
@[simp] theorem resetTo_linkChanges (p : Phase) : (s.resetTo p).linkChanges = State.reset.linkChanges := rfl
@[simp] theorem resetTo_seatChanges (p : Phase) : (s.resetTo p).seatChanges = State.reset.seatChanges := rfl
@[simp] theorem resetTo_slots (p : Phase) : (s.resetTo p).slots = State.reset.slots := rfl
@[simp] theorem resetTo_radio (p : Phase) : (s.resetTo p).radio = State.reset.radio := rfl
@[simp] theorem resetTo_arbiter (p : Phase) : (s.resetTo p).arbiter = State.reset.arbiter := rfl
@[simp] theorem resetTo_sending (p : Phase) : (s.resetTo p).sending = State.reset.sending := rfl
@[simp] theorem resetTo_seats (p : Phase) : (s.resetTo p).seats = State.reset.seats := rfl
@[simp] theorem resetTo_gains (p : Phase) : (s.resetTo p).gains = State.reset.gains := rfl
@[simp] theorem resetTo_engine (p : Phase) : (s.resetTo p).engine = State.reset.engine := rfl
@[simp] theorem resetTo_pass (p : Phase) : (s.resetTo p).pass = State.reset.pass := rfl
@[simp] theorem resetTo_uplinkClip (p : Phase) : (s.resetTo p).uplinkClip = State.reset.uplinkClip := rfl
@[simp] theorem resetTo_downClip (p : Phase) : (s.resetTo p).downClip = State.reset.downClip := rfl
@[simp] theorem resetTo_ticks (p : Phase) : (s.resetTo p).ticks = State.reset.ticks := rfl
@[simp] theorem resetTo_holdover (p : Phase) : (s.resetTo p).holdover = State.reset.holdover := rfl
@[simp] theorem resetTo_pcm (p : Phase) : (s.resetTo p).pcm = State.reset.pcm := rfl
@[simp] theorem resetTo_timers (p : Phase) : (s.resetTo p).timers = State.reset.timers := rfl
@[simp] theorem resetTo_cues (p : Phase) : (s.resetTo p).cues = State.reset.cues := rfl
@[simp] theorem resetTo_cueFault (p : Phase) : (s.resetTo p).cueFault = State.reset.cueFault := rfl
@[simp] theorem resetTo_pending (p : Phase) : (s.resetTo p).pending = s.pending := rfl

end Sys2Proof.Machine
end

