-- ==== Sys2Proof/WellFormed.lean ====
section
/-! DEFINITION. Which commands a sender may form. A transaction row that shifts no byte and does not end the transaction names
no event. A frame row with no byte that does not end the frame is the rise of PVALID (R25). The type of a transaction and the
kind of a frame are bytes that the part reads, not tests on the sender. Every other operand is limited by its type already. -/

namespace Sys2Proof

/-- Whether a sender may form this command. -/
def WellFormed : Instr → Bool
  | .writeTransaction shift => !shift.mosi.isEmpty || shift.ends
  | .readTransaction shift => !shift.mosi.isEmpty || shift.ends
  | _ => true

end Sys2Proof
end

