-- ==== Sys2Proof/Tests/Slice0.lean ====
section
/-! SUPPORT. The model's own tests: ill-formed commands refused, the manual's worked figures and sequences a step at a time,
and for each statement with hypotheses a concrete case that meets them. -/

namespace Sys2Proof.Tests

open Sys2Proof Sys2Proof.Machine

/-! ## Small states -/

/-- The state a command leaves. -/
def after (c : Instr) (s : State) : State :=
  match exec c s with
  | .next t => t
  | .fault f => nomatch f
  | .refused _ => s

/-- The part right after start-up. -/
def ready : State := { State.reset with phase := .ready }

/-- The part with a request of this code, tag 7 and body held. -/
def held (s : State) (code : Byte) (body : List Byte) : State :=
  { s with
    phase := .ready
    iface := .executing { bytes := requestBytes code 7 body, count := body.length + 3 } }

/-- The bytes of the pending response. -/
def answer (s : State) : List Byte :=
  match s.iface with
  | .responsePending r => r.bytes
  | _ => []

/-- The configuration of link 0 of section 11.3. -/
def config : LinkConfig where
  handle := 0x041
  seat := 0
  side := .left
  blockLength := 80
  startLevel := 226
  lowMark := 66
  supervision := 200
  loopShift := 3
  starveLimit := 4
  talkOn := 1024
  talkOff := 512
  hang := 25

/-- A record as newly admitted. -/
def standby : LinkRecord := LinkRecord.admitted config

/-- A LIVE record with 100 samples and expected sequence number 4. -/
def live : LinkRecord :=
  { standby with state := .live, expected := some 4, remaining := 150, jitter := List.replicate 100 1000 }

/-- A PRIMING record whose fill has reached its start level. -/
def primed : LinkRecord := { live with state := .priming, jitter := List.replicate 226 1000 }

/-- The part with a record in slot 0. -/
def put (s : State) (r : LinkRecord) : State := { s with slots := s.slots.set 0 (some r) }

/-- The part in a call on a locked port, with this record in slot 0. -/
def calling (r : LinkRecord) : State :=
  { put ready r with engine := .call, pcm := { ready.pcm with lock := .locked, seen := true } }

/-- The part in HOLDOVER, with this record in slot 0. -/
def holding (r : LinkRecord) : State := { put ready r with engine := .holdover }

/-- A frame of link 0 with this sequence number, 80 samples of 500. -/
def frame (seq : Byte) : List Byte := audioUpBytes 0x041 false seq 80 (List.replicate 80 500)

/-- The snapshot of a pass start of a call whose one link is LIVE. -/
def snapshot : Snapshot := (ready.snapshot (passLinks (put ready live).slots))

/-- A cue set that fires on TIMER 0, with this action, enabled. -/
def cue (action : Action) : CueSet := { CueSet.atReset with cause := some (.timer 0), action, enabled := true }

/-- The part with a cue set 0. -/
def armed (s : State) (c : CueSet) : State := { s with cues := s.cues.set 0 c }

/-! ## Well-formedness -/

theorem test_ill_formed_write_of_no_event : WellFormed (.writeTransaction ⟨[], false⟩) = false := by decide

theorem test_ill_formed_read_of_no_event : WellFormed (.readTransaction ⟨[], false⟩) = false := by decide

theorem test_well_formed_port_events : WellFormed (.audioUp [] false) = true ∧
    WellFormed (.linkStatus [0x02, 0x41, 0, 1] true) = true ∧ WellFormed (.writeTransaction ⟨[], true⟩) = true ∧
    WellFormed (.readTransaction ⟨[0x02], false⟩) = true := by decide

/-- No row of the table gives bits. -/
theorem test_no_word_spells_a_command : decodeTableWord 0 0 = none ∧ decodeTableWord 64 5 = none := by decide

/-! ## Worked figures -/

/-- Section 4.6, output 10 at d = 384. -/
theorem test_interpolation_of_output_10 : interpolate 1000 1500 7 = 1000 := by decide

/-- Section 4.8, output 1. -/
theorem test_downlink_output_1 : interpolate 0 20142 32767 = 20141 := by decide

/-- Section 4.6, the five rows of "Needed and consumed at the limits". -/
theorem test_needed_consumed_and_carried :
    ([((0 : Nat), (0 : Int)), (0, -16384), (1032292, -16384), (15740000, 16384), (16000000, 16384)].map fun p =>
      (neededCount p.1 p.2, consumedCount p.1 p.2, carriedPhase p.1 p.2)) =
    [(65, 64, 0), (64, 63, 15728640), (65, 63, 16760932), (65, 65, 11360), (66, 65, 271360)] := by decide

/-- Section 4.8, the two completions. -/
theorem test_downlink_counts_and_positions :
    downlinkCount 0 384 = 65 ∧ carriedPosition 0 384 = 16752256 ∧ downlinkCount 16752256 384 = 64 ∧
    carriedPosition 16752256 384 = 16727680 := by decide

/-- Section 4.7, pass start 32 and the first of the two clamps. -/
theorem test_drift_updates :
    (({ live with config := { config with startLevel := 200, loopShift := 2 } }).driftUpdate 6600).drift = 384 ∧
    (({ live with config := { config with startLevel := 300, loopShift := 0 }, drift := 16000 }).driftUpdate
      (305 * 32)).drift = 16384 ∧
    (({ live with config := { config with startLevel := 300, loopShift := 0 }, drift := 16000 }).driftUpdate
      (305 * 32)).counters.driftLimits = 1 := by decide

/-- Section 5.6. -/
theorem test_crossfade_values :
    [1, 2, 3, 4].map (fun k => crossfadeValue 12000 (-4000) k 4) = [8000, 4000, 0, -4000] ∧
    crossfadeValue 0 8000 1 8 = 1000 ∧ crossfadeValue 0 8000 8 8 = 8000 := by decide

/-- R125's table. -/
theorem test_effective_gains :
    [(16384, 20000), (8192, 20000), (2048, 32767), (8192, 32767), (32767, 16385), (32767, 32767)].map
      (fun p => effective p.1 p.2) = [20000, 10000, 4096, 16384, 32767, 32767] := by decide

/-- Section 7.9, the four sums, and R127's boundaries. -/
theorem test_output_samples :
    [330000000, 540647000, -131072000, -1028390912].map saturated = [20142, 32767, -8000, -32768] ∧
    [536862720, 536862719, -536879104, -536879105].map isSaturated = [true, false, false, true] := by decide

/-- Section 6.7, completions 5 and 6, and the ramp that stops at its target. -/
theorem test_ramps :
    (Gain.ramp ⟨1000, 0, 600⟩).current = 400 ∧ (Gain.ramp ⟨400, 0, 600⟩).current = 0 ∧
    (Gain.ramp ⟨1800, 2048, 600⟩).current = 2048 := by decide

/-- The examples of R49 and R58. -/
theorem test_queue_capacities :
    (({ live with jitter := List.replicate 700 0 }).writeJitter (List.replicate 960 1)).counters.overflow = 892 ∧
    (({ live with downlink := List.replicate 720 0 }).writeDownlink (List.replicate 65 1)).counters.downDropped = 17 := by
  decide +kernel

/-! ## One step of each command -/

theorem test_reset_n_fall_and_rise :
    (after .resetNFall (calling live)).phase = .inReset ∧
    (after .resetNRise { State.reset with phase := .inReset }).phase = .startUp := by decide

theorem test_start_up_end : (after .startUpEnd State.reset).phase = .ready := by decide

/-- Section 11.4: the loss of lock at a tick that finds no frame sync, and T kept. -/
theorem test_tick_loses_lock :
    let t := after .tick { calling live with ticks := 2, pcm := { (calling live).pcm with seen := false } }
    t.engine = .holdover ∧ t.ticks = 3 ∧ t.pcm.lock = .unlocked ∧ t.notices.clock = true := by decide

theorem test_supervision_expiry :
    let t := after (.supervisionExpiry 0) (calling { live with remaining := 1 })
    (t.slots.get 0).map LinkRecord.state = some .lost ∧ t.linkChanges.get 0 = true := by decide

/-- Section 9.7, tick 1,000: timer 0 reloads and timer 1 above it ends. -/
theorem test_timer_expiry_runs_up_the_cascade :
    let timers : Bank 4 Timer :=
      (ready.timers.set 0 ⟨250, .periodic, .tick, .running, 1⟩).set 1 ⟨4, .oneShot, .cascade, .running, 1⟩
    let t := after (.timerExpiry 1) { ready with timers }
    (t.timers.get 0).count = 250 ∧ (t.timers.get 1).state = .idle ∧ (t.timers.get 1).count = 0 := by decide

theorem test_holdover_boundary_starts_a_pass :
    let t := after .holdoverPassBoundary { holding live with ticks := 3 }
    t.ticks = 0 ∧ t.pass.isSome = true ∧ t.holdover = 1 := by decide

theorem test_automatic_call_end :
    let t := after .automaticCallEnd { holding live with holdover := 1999 }
    t.engine = .stopped ∧ t.holdover = 0 ∧ (t.slots.get 0).map LinkRecord.state = some .standby := by decide

theorem test_frame_sync_sends_the_head_at_32 :
    let s := calling live
    let t := after (.frameSync 9 true) { s with pcm := { s.pcm with b := 31, uplink := [5, 6] } }
    t.pcm.dout = 5 ∧ t.pcm.side = .sending ∧ t.pcm.farEnd = [9] ∧ t.pcm.b = 32 := by decide

theorem test_lock_moves_holdover_to_call :
    let s := holding live
    let t := after (.lock 9 true) { s with pcm := { s.pcm with run := 63 } }
    t.engine = .call ∧ t.pcm.lock = .locked ∧ t.pcm.farEnd = [] ∧ t.pcm.run = 0 := by decide

/-- Section 11.3, boundary 1 for a fill of 240: LIVE with 176 left, the voice LEFT. -/
theorem test_call_boundary_primes_and_selects :
    let s := calling { primed with jitter := List.replicate 240 1000 }
    let t := after (.callPassBoundary 9 true) { s with pcm := { s.pcm with b := 63 } }
    (t.slots.get 0).map (fun r => (r.state, r.jitter.length)) = some (.live, 176) ∧
    (t.seats.get 0).voice = some .left ∧ t.pcm.b = 0 := by decide +kernel

/-- Section 11.3, completion 1: a gain current goes from 0 to 512. -/
theorem test_pass_completion_ramps :
    let t := after .passCompletion { calling standby with pass := some snapshot }
    t.gains.uplinkLevel.current = 512 ∧ t.pass.isSome = false ∧ t.pcm.uplink.length = 64 := by
  decide +kernel

/-- Section 2.8: the pointer at 7 serves link 0. -/
theorem test_audio_down_complete_serves_link_0 :
    let s := put ready { live with downlink := List.replicate 100 3 }
    let t := after .audioDownComplete { s with sending := some ⟨6, 0x050, 0, []⟩ }
    t.arbiter = 0 ∧ t.radio.framesSent = 1 ∧ (t.slots.get 0).map (fun r => r.downlink.length) = some 20 := by decide

/-- A gap of two: two concealment blocks of half and a quarter, then the frame. -/
theorem test_audio_up_fills_a_gap :
    let t := after (.audioUp (frame 6) true) (calling { live with lastBlock := some (List.replicate 80 (-7)) })
    (t.slots.get 0).map (fun r : LinkRecord => (r.jitter.length, r.jitter[100]?, r.jitter[180]?, r.counters.concealed)) =
      some (340, some (-4 : Sample), some (-2 : Sample), 2) := by decide +kernel

theorem test_link_status_down_loses_the_link :
    ((after (.linkStatus [0x02, 0x41, 0, 0] true) (calling live)).slots.get 0).map LinkRecord.state =
      some .lost := by decide

/-- Section 2, R25: a frame clocked in in two parts arrives at the fall of PVALID; one that a reset came into does not. -/
theorem test_link_status_in_two_parts :
    let s := after (.linkStatus [0x02, 0x41] false) (calling live)
    s.reception = .receiving [0x02, 0x41] 2 ∧
    ((after (.linkStatus [0, 0] true) s).slots.get 0).map LinkRecord.state = some .lost ∧
    (after .resetNFall s).reception = .ignoring ∧
    (after (.linkStatus [0, 0] true) { after .resetNFall s with phase := .ready }).radio = s.radio := by decide

/-- The transaction that a fall of CS_N starts in this state. -/
def selected (s : State) : State := after .csNFall s

/-- Type 0x01 holds the bytes behind it, in one part or two; type 0x00 is a status poll. -/
theorem test_write_transaction_holds_a_request :
    (after (.writeTransaction ⟨[1, 2, 0x1F, 9], true⟩) (selected ready)).iface = .executing ⟨[2, 0x1F, 9], 3⟩ ∧
    (after (.writeTransaction ⟨[0x1F, 9], true⟩) (after (.writeTransaction ⟨[1, 2], false⟩) (selected ready))).iface =
      .executing ⟨[2, 0x1F, 9], 3⟩ ∧
    after (.writeTransaction ⟨[0, 2, 0x1F, 9], true⟩) (selected ready) = { ready with miso := [0x80, 0, 0, 0] } := by decide

theorem test_read_transaction_cut_short_stays_pending :
    let r : Response := ⟨0x1F, 9, .ok, [0x3D]⟩
    let s := selected { ready with iface := .responsePending r }
    (after (.readTransaction ⟨[2, 0, 0, 0, 0], true⟩) s).iface = .responsePending r ∧
    (after (.readTransaction ⟨[2, 0, 0, 0, 0, 0], true⟩) s).iface = .idle ∧
    (after (.readTransaction ⟨[2, 0, 0, 0, 0, 0, 0], true⟩) s).miso = [0xC0, 4, 0x1F, 9, 0, 0x3D, 0] := by decide

theorem test_cs_n_fall_fixes_the_status_byte :
    (selected { ready with notices := ready.notices.raise .seat, busy := true }).transaction =
      .taken ⟨0xA3, none, none, [], 0⟩ := by decide

/-- R172, R183: the bytes that remain of a READ which a reset abandons are 0, and its end has no effect. -/
theorem test_reset_abandons_a_transaction :
    let s := selected { ready with iface := .responsePending ⟨0x1F, 9, .ok, [0x3D]⟩ }
    let t := after .resetNFall (after (.readTransaction ⟨[2, 0], false⟩) s)
    t.transaction = .ignored ∧ t.misoByte = 0 ∧
    after (.readTransaction ⟨[0, 0], true⟩) t =
      { State.reset with phase := .inReset, miso := [0xC0, 4, 0, 0] } := by decide

theorem test_framing_refusal_of_a_short_message :
    answer (after .framingRefusal { ready with iface := .executing ⟨[5, 3], 2⟩ }) = [3, 3, 0, 1] := by decide

theorem test_admit_link :
    answer (after .admitLink (held ready 0x01 [0x41, 0, 0, 0, 80])) = [4, 0x01, 7, 0, 0] ∧
    ((after .admitLink (held ready 0x01 [0x41, 0, 0, 0, 80])).slots.get 0).map
      (fun r => r.config.startLevel) = some 226 := by decide

theorem test_amend_link_of_a_running_record :
    answer (after .amendLink (held (calling live) 0x02 [0, 2, 1, 0])) = [3, 0x02, 7, 5] ∧
    answer (after .amendLink (held (calling live) 0x02 [0, 8, 4, 0])) = [3, 0x02, 7, 0] := by decide

theorem test_read_link :
    let b := answer (after .readLink (held (calling { live with drift := -2 }) 0x03 [0]))
    b.length = 71 ∧ b[4 + 23]? = some 0xFE ∧ b[4 + 24]? = some 0xFF ∧ b[4 + 63]? = some 100 := by decide

theorem test_find_link :
    answer (after .findLink (held (calling live) 0x04 [0x41, 0])) = [5, 0x04, 7, 0, 0, 2] ∧
    answer (after .findLink (held (calling live) 0x04 [0, 0x0F])) = [3, 0x04, 7, 3] := by decide

theorem test_retire_link : (after .retireLink (held (calling live) 0x05 [0])).slots.get 0 = none := by decide

theorem test_set_seat_and_its_ranges :
    ((after .setSeat (held ready 0x06 [3, 1, 32, 255, 0, 0, 16])).seats.get 3).stepSize = 4096 ∧
    answer (after .setSeat (held ready 0x06 [3, 1, 3, 255, 0, 0, 16])) = [3, 0x06, 7, 3] := by decide

theorem test_read_seat :
    answer (after .readSeat (held (calling live) 0x07 [0])) =
      [23, 0x07, 7, 0, 0, 2, 8, 50, 0, 4, 0xFF, 0, 0, 0, 0, 0, 0, 0, 0, 2, 0, 0xFF, 0, 0] := by decide

/-- Section 6.7: an own-voice target of 3,000 is stored as the ceiling, 2,048, with step 600. -/
theorem test_set_gain_of_an_own_voice_cell :
    answer (after .setGain (held ready 0x08 [3, 3, 0xB8, 0x0B, 0x58, 0x02])) =
      [9, 0x08, 7, 0, 0, 0, 0, 8, 0x58, 0x02] := by decide

theorem test_fade_and_the_fixed_cell :
    answer (after .fade (held ready 0x09 [1, 0])) = [9, 0x09, 7, 0, 0, 0, 0, 0, 0, 2] ∧
    answer (after .fade (held ready 0x09 [0, 0])) = [3, 0x09, 7, 4] := by decide

theorem test_cut : answer (after .cut (held ready 0x0A [0, 0xFF])) = [9, 0x0A, 7, 0, 0, 0, 0, 0, 0, 2] := by decide

/-- R115: a level of 32,000 stepped up by 1,024 stops at 32,767. -/
theorem test_step_gain_saturates :
    let s : State :=
      { ready with gains := ready.gains.modify (.level (.down 0)) fun x => { x with target := 32000 } }
    answer (after .stepGain (held s 0x0B [0, 0])) = [9, 0x0B, 7, 0, 0, 0, 0xFF, 0x7F, 0, 2] := by decide

theorem test_read_gain :
    answer (after .readGain (held ready 0x0C [1, 1])) = [12, 0x0C, 7, 0, 0, 0, 0, 0, 0, 2, 1, 0, 8] := by decide

theorem test_set_sidetone_ceiling :
    answer (after .setSidetoneCeiling (held ready 0x0D [0, 0x20])) = [5, 0x0D, 7, 0, 0, 0x20] ∧
    answer (after .setSidetoneCeiling (held ready 0x0D [1, 0x20])) = [3, 0x0D, 7, 3] := by decide

theorem test_load_timer_refuses_cascade_for_timer_0 :
    answer (after .loadTimer (held ready 0x0E [0, 1, 0, 0, 1])) = [3, 0x0E, 7, 3] ∧
    ((after .loadTimer (held ready 0x0E [1, 1, 0, 0, 1])).timers.get 1).source = .cascade := by decide

theorem test_start_timer :
    ((after .startTimer (held ready 0x0F [0])).timers.get 0).count = 1000 ∧
    answer (after .startTimer (held { ready with timers := ready.timers.set 1 ⟨4, .oneShot, .cascade, .idle, 0⟩ } 0x0F
      [1])) = [3, 0x0F, 7, 5] := by decide

theorem test_stop_timer :
    ((after .stopTimer (held { ready with timers := ready.timers.set 0 ⟨9, .oneShot, .tick, .running, 3⟩ } 0x10
      [0])).timers.get 0).count = 0 := by decide

theorem test_read_timer :
    answer (after .readTimer (held ready 0x11 [0])) = [10, 0x11, 7, 0, 0xE8, 0x03, 0, 0, 0, 0, 0] := by decide

/-- A PREFER of seat 1's RIGHT on TALK_START of link 5, chaining set 2; a chain naming its own set is refused. -/
theorem test_set_cue :
    let c := (after .setCue (held ready 0x12 [0, 3, 5, 7, 1, 1, 0, 0, 0, 1, 1, 2])).cues.get 0
    c.cause = some (.talkStart 5) ∧ c.action = .prefer 1 .right ∧ c.rep = .once ∧ c.chain.get 2 = true ∧
    answer (after .setCue (held ready 0x12 [0, 3, 5, 7, 1, 1, 0, 0, 0, 1, 1, 0])) = [3, 0x12, 7, 3] := by decide

theorem test_enable_cue_while_a_fault_is_pending :
    answer (after .enableCue (held { ready with cueFault := some ⟨1, .sideEmpty⟩ } 0x13 [0])) = [3, 0x13, 7, 0x0A] := by
  decide

theorem test_disable_cue :
    ((after .disableCue (held (armed ready (cue .none)) 0x14 [0])).cues.get 0).enabled = false := by decide

/-- Section 9.7, its last paragraph: FAULT with CASCADE_IDLE. -/
theorem test_fire_cue_faults :
    let s : State :=
      { armed ready (cue (.startTimer 1)) with timers := ready.timers.set 1 ⟨4, .oneShot, .cascade, .idle, 0⟩ }
    let t := after .fireCue (held s 0x15 [0])
    answer t = [5, 0x15, 7, 0, 1, 2] ∧ t.cueFault = some ⟨0, .cascadeIdle⟩ ∧ (t.cues.get 0).enabled = false := by decide

theorem test_read_cue :
    answer (after .readCue (held (armed ready (cue (.step .uplink .down))) 0x16 [0])) =
      [23, 0x16, 7, 0, 0, 6, 0, 4, 0, 0xFF, 1, 0, 1, 0, 0, 0, 0, 0, 1, 0, 0, 0, 0, 0] := by decide

theorem test_call_start_on_an_unlocked_port :
    let t := after .callStart (held ready 0x17 [])
    t.engine = .holdover ∧ answer t = [4, 0x17, 7, 0, 2] ∧ t.notices.clock = true := by decide

theorem test_call_end :
    let t := after .callEnd (held (calling live) 0x18 [])
    t.engine = .stopped ∧ (t.slots.get 0).map LinkRecord.state = some .standby ∧ t.linkChanges.get 0 = true := by decide

theorem test_call_clear :
    let t := after .callClear (held (calling { live with drift := 7 }) 0x19 [])
    (t.slots.get 0) = some standby ∧ t.notices = { NoticeFlags.clear with clock := true } := by decide

theorem test_read_notices :
    answer (after .readNotices (held { ready with notices := ready.notices.raise .queue } 0x1A [])) =
      [9, 0x1A, 7, 0, 0x20, 0, 6, 0, 0, 0] := by decide

theorem test_clear_notices_clears_what_goes_with_them :
    let s : State := { ready.markLink 2 with cueFault := some ⟨1, .sideEmpty⟩ }
    let t := after .clearNotices (held s 0x1B [2, 4])
    answer t = [7, 0x1B, 7, 0, 2, 4, 0, 1] ∧ t.linkChanges.get 2 = false ∧ t.cueFault = none := by decide

theorem test_set_notice_mask :
    answer (after .setNoticeMask (held ready 0x1C [1, 6])) = [4, 0x1C, 7, 0, 0x21] ∧
    answer (after .setNoticeMask (held ready 0x1C [1, 1])) = [3, 0x1C, 7, 3] := by decide

theorem test_clear_clip :
    let t := after .clearClip (held { ready with uplinkClip := ⟨true, 5⟩ } 0x1D [0])
    t.uplinkClip = ⟨false, 5⟩ ∧ (answer t).take 7 = [18, 0x1D, 7, 0, 1, 5, 0] := by decide

theorem test_read_port_counters :
    answer (after .readPortCounters (held { ready with holdover := 258 } 0x1E [])) =
      [21, 0x1E, 7, 0, 0, 0, 0, 0, 0, 0, 0, 0, 0, 0, 0, 0, 0, 0, 0, 0, 2, 1] := by decide

/-- R182: family code 0x3D, part code 428, revision 1, 8 links, 4 seats. -/
theorem test_identify :
    answer (after .identify (held ready 0x1F [])) = [9, 0x1F, 7, 0, 0x3D, 0xAC, 0x01, 1, 8, 4] := by decide

theorem test_reset_request : after .reset (held (calling live) 0x20 []) = State.reset := by decide

theorem test_step_takes_the_front_command :
    step { State.reset with pending := [.startUpEnd, .tick] } = .next { ready with pending := [.tick] } := rfl

/-! ## Witnesses: concrete cases that meet the hypotheses of the statements -/

theorem held_holds (s : State) (code : Byte) (body : List Byte) : (held s code body).Holds code 7 body := ⟨rfl, rfl⟩

theorem put_matches (s : State) (r : LinkRecord) : (put s r).Matches r.config.handle.toNat 0 r :=
  ⟨by simp [put], rfl, fun j h => absurd h (by simp)⟩

/-- The table with one record. -/
theorem put_ready_get (r q : LinkRecord) (i : Fin 8) (h : (put ready r).slots.get i = some q) : i = 0 ∧ q = r := by
  by_cases hi : i = 0
  · subst hi
    simpa [put, eq_comm] using h
  · simp [put, hi, ready, State.reset] at h

theorem ready_slots (i : Fin 8) : ready.slots.get i = none := by simp [ready, State.reset]

theorem live_in_range : live.InRange := by
  constructor <;> first | decide | exact ⟨by decide, by decide, by decide, by decide, by decide, by decide, by decide,
    by decide, by decide, by decide, by decide⟩ | exact ⟨by decide, by decide, by decide, by decide, by decide,
    by decide, by decide, by decide, by decide⟩

theorem snapshot_in_range : ∀ i l, snapshot.links.get i = some l → l.InRange := by
  intro i l h
  have : ∀ i, (snapshot.links.get i).all (fun l => l.outputs.length == 64 && l.drift == 0) = true := by decide +kernel
  have := this i
  rw [h] at this
  simp at this
  obtain ⟨a, b⟩ := this
  exact ⟨a, by omega, by omega⟩

theorem witness_TheFrontCommandRuns :
    ({ State.reset with pending := [.startUpEnd, .tick] }).pending = .startUpEnd :: [.tick] ∧
    State.reset.pending = [] := ⟨rfl, rfl⟩

/-- The part READY, its transaction fallen with this status byte and this response to send. -/
def inTransaction (status : Byte) (sends : Option Response) : State :=
  { ready with transaction := .taken ⟨status, sends, none, [], 0⟩ }

/-- The part receiving a frame of which this much has been clocked in. -/
def receivingFrame (bytes : List Byte) : State := { ready with reception := .receiving (bytes.take 515) bytes.length }

theorem witness_ResetPinFallHoldsThePartInReset :
    ({ State.reset with phase := .inReset }).phase = .inReset ∧ ready.transaction = .idle ∧
    (inTransaction 0x80 none).transaction ≠ .idle ∧ ready.reception = .waiting ∧ (receivingFrame [1]).reception ≠ .waiting :=
  ⟨rfl, rfl, by simp [inTransaction], rfl, by simp [receivingFrame]⟩

theorem witness_ResetRequestAndStartUp :
    (held (calling live) 0x20 []).Holds 0x20 7 [] ∧
    ({ inTransaction 0x80 none with iface := (held ready 0x20 []).iface } : State).Holds 0x20 7 [] ∧
    ({ State.reset with phase := .inReset }).phase = .inReset ∧
    State.reset.phase = .startUp ∧ ready.phase ≠ .inReset ∧ ready.phase ≠ .startUp :=
  ⟨held_holds _ _ _, ⟨rfl, rfl⟩, rfl, rfl, by decide, by decide⟩

theorem witness_NothingIsTakenBeforeReady :
    State.reset.phase ≠ .ready ∧ Instr.callStart ≠ .resetNFall ∧ Instr.callStart ≠ .resetNRise ∧
    Instr.callStart ≠ .startUpEnd ∧ Instr.callStart ≠ .tick ∧ Instr.callStart ≠ .csNFall ∧
    (∀ bytes ends, Instr.callStart ≠ .writeTransaction ⟨bytes, ends⟩ ∧ Instr.callStart ≠ .readTransaction ⟨bytes, ends⟩ ∧
      Instr.callStart ≠ .audioUp bytes ends ∧ Instr.callStart ≠ .linkStatus bytes ends) ∧
    State.reset.reception = .waiting ∧ { State.reset with transaction := .ignored }.transaction ≠ .idle := by
  simp [State.reset]

theorem witness_TransactionStartFixesTheStatusByte :
    State.reset.phase ≠ .ready ∧ ready.phase = .ready ∧
    ({ ready with iface := .responsePending ⟨0x1F, 9, .ok, []⟩ } : State).phase = .ready := ⟨by decide, rfl, rfl⟩

theorem witness_WriteTransactionHoldsOrDropsTheRequest :
    ready.transaction = .idle ∧ ({ ready with transaction := .ignored } : State).transaction = .ignored ∧
    exec (.writeTransaction ⟨[1, 2], false⟩) (inTransaction 0x80 none) =
      .next (after (.writeTransaction ⟨[1, 2], false⟩) (inTransaction 0x80 none)) ∧
    (inTransaction 0x80 none).Began 0x80 none ∧ ((0 : Byte) ≠ 0x01 ∧ (0 : Byte) ≠ 0x02 ∧ (3 : Byte) ≠ 0x01 ∧ (3 : Byte) ≠ 0x02) ∧
    [(2 : Byte)] ≠ [] ∧ List.replicate 65 (2 : Byte) ≠ [] ∧ (inTransaction 0x80 none).iface = .idle ∧
    { inTransaction 0x80 none with iface := .executing ⟨[2], 1⟩ }.Began 0x80 none ∧
    { inTransaction 0x80 none with iface := .executing ⟨[2], 1⟩ }.iface ≠ .idle :=
  ⟨rfl, rfl, rfl, ⟨rfl, rfl⟩, by decide, by simp, by simp, rfl, ⟨rfl, rfl⟩, by simp⟩

theorem witness_ReadTransactionReadsAWholeResponse :
    (inTransaction 0x80 none).Began 0x80 none ∧
    (inTransaction 0xC0 (some ⟨0x1F, 9, .ok, []⟩)).Began 0xC0 (some ⟨0x1F, 9, .ok, []⟩) ∧
    [(0 : Byte), 0, 0].length < (⟨0x1F, 9, .ok, []⟩ : Response).bytes.length ∧
    (⟨0x1F, 9, .ok, []⟩ : Response).bytes.length ≤ [(0 : Byte), 0, 0, 0].length :=
  ⟨⟨rfl, rfl⟩, ⟨rfl, rfl⟩, by decide, by decide⟩

theorem witness_WrongFramingIsAnsweredWithBadRequest :
    (held ready 0x1F []).phase = .ready ∧ (held ready 0x1F []).iface = .executing ⟨[2, 0x1F, 7], 3⟩ ∧
    (⟨[2, 0x1F, 7], 3⟩ : HeldRequest).wellFramed = true ∧ (⟨[3, 0x1F, 7], 3⟩ : HeldRequest).wellFramed = false ∧
    (⟨[2], 1⟩ : HeldRequest).wellFramed = false := ⟨rfl, rfl, by decide, by decide, by decide⟩

theorem witness_FramingAcceptsExactlyTheLengthsOfTheTables :
    (⟨[2, 0x1F, 7], 3⟩ : HeldRequest).wellFramed = true ∧ AllowedBody 0x1F [] ∧
    (⟨requestBytes 0x1B 7 [1, 2, 3, 4, 5, 6], 9⟩ : HeldRequest).wellFramed = true ∧
    (⟨requestBytes 0x1B 7 [1, 2, 3, 4, 5, 6, 6], 10⟩ : HeldRequest).wellFramed = false :=
  ⟨by decide, by simp [AllowedBody], by decide, by decide⟩

theorem witness_RequestRowsTakeOnlyTheirOwnRequest :
    requestCode .identify = some 0x1F ∧
    (∀ h, (held ready 0x20 []).iface = .executing h → h.bytes[1]? ≠ some 0x1F) ∧
    (held ready 0x1F [0]).iface = .executing ⟨[3, 0x1F, 7, 0], 4⟩ ∧ [3, (0x1F : Byte), 7, 0][1]? = some 0x1F ∧
    (⟨[3, 0x1F, 7, 0], 4⟩ : HeldRequest).wellFramed = false := by
  refine ⟨rfl, fun h e => ?_, rfl, rfl, by decide⟩
  cases e
  decide

theorem witness_NoticeRequestsReadMaskAndClear :
    (held ready 0x1A []).Holds 0x1A 7 [] ∧
    ((held ready 0x1C [7]).Holds 0x1C 7 [7] ∧ ∃ b ∈ [(7 : Byte)], b.toNat = 0 ∨ 6 < b.toNat) ∧
    ((held ready 0x1B [1, 1]).Holds 0x1B 7 [1, 1] ∧ ¬[(1 : Byte), 1].Nodup) ∧
    (held ready 0x1C [1, 2, 3, 4, 5, 6]).Holds 0x1C 7 [1, 2, 3, 4, 5, 6] ∧
    (held ready 0x1B [1, 2, 3, 4, 5, 6]).Holds 0x1B 7 [1, 2, 3, 4, 5, 6] ∧
    [(1 : Byte), 2, 3, 4, 5, 6].length ≤ 6 ∧ [(1 : Byte), 2, 3, 4, 5, 6].Nodup ∧
    ∀ b ∈ [(1 : Byte), 2, 3, 4, 5, 6], 1 ≤ b.toNat ∧ b.toNat ≤ 6 :=
  ⟨held_holds _ _ _, ⟨held_holds _ _ _, by decide⟩, ⟨held_holds _ _ _, by decide⟩, held_holds _ _ _, held_holds _ _ _,
    by decide, by decide, by decide⟩

theorem witness_IdentifyAnswersTheFiveFields : (held (calling live) 0x1F []).Holds 0x1F 7 [] := held_holds _ _ _

theorem witness_NamedFieldsDefaultsAndValidity :
    ([((5 : Nat), (528 : Nat)), (12, 0)].map fun e => e.1).Nodup := by decide

/-- Every slot taken. -/
def full : State := { ready with slots := Bank.fill 8 (some live) }

theorem witness_AdmitLinkFillsTheLowestFreeSlot :
    (held ready 0x01 [0x41, 0, 0, 0, 80]).Holds 0x01 7 ([0x41, 0, 0, 0, 80] ++ entryBytes []) ∧
    (RawConfig.defaults 0x041 0 0 80).check = some config ∧ (RawConfig.defaults 0xF00 0 0 80).check = none ∧
    (∃ e ∈ entryValues [(4, 80, 0)], e.1 < 5 ∨ 12 < e.1) ∧
    ((entryValues ((List.range 8).map fun k => (BitVec.ofNat 8 (k + 5), 1, 0))).map fun e => e.1).Nodup ∧
    (∀ i, full.slots.get i ≠ none) ∧
    (∃ i r, (put ready live).slots.get i = some r ∧ r.config.handle = config.handle) ∧
    (∃ i r, (put ready live).slots.get i = some r ∧ r.config.seat = config.seat ∧ r.config.side = config.side) ∧
    ready.slots.get 0 = none ∧ (¬∃ i r, ready.slots.get i = some r ∧ r.config.handle = config.handle) ∧
    ¬∃ i r, ready.slots.get i = some r ∧ r.config.seat = config.seat ∧ r.config.side = config.side := by
  refine ⟨held_holds _ _ _, by decide, by decide, by decide, by decide, ?_, ⟨0, live, by simp [put], rfl⟩,
    ⟨0, live, by simp [put], rfl, rfl⟩, ready_slots 0, ?_, ?_⟩
  · simp [full]
  · rintro ⟨i, r, h, _⟩
    simp [ready_slots] at h
  · rintro ⟨i, r, h, _⟩
    simp [ready_slots] at h

/-- A record on the other side of the seat of `live`. -/
def other : LinkRecord := { standby with config := { config with handle := 0xEFF, side := .right } }

/-- The two earbuds of one seat, the second STANDBY. -/
def pair : State := { put ready live with slots := (put ready live).slots.set 1 (some other) }

theorem witness_AmendLinkWritesTheNamedFields :
    (held pair 0x02 [8, 2, 1, 0]).Holds 0x02 7 (8 :: entryBytes [(2, 1, 0)]) ∧
    pair.slots.get 0 = some live ∧ pair.slots.get 1 = some other ∧ pair.slots.get 7 = none ∧
    (∃ e ∈ entryValues [(1, 1, 0)], e.1 < 2 ∨ 12 < e.1) ∧
    (live.config.raw.writeAll (entryValues [(8, 7, 0)])).check = none ∧
    ((live.config.raw.writeAll (entryValues [(2, 1, 0)])).check = some { config with seat := 1 } ∧
      live.state = .live ∧ ({ config with seat := 1 } : LinkConfig).seat ≠ live.config.seat) ∧
    ((other.config.raw.writeAll (entryValues [(3, 0, 0)])).check = some { other.config with side := .left } ∧
      (∃ j q, j ≠ (1 : Fin 8) ∧ pair.slots.get j = some q ∧ q.config.seat = other.config.seat ∧ q.config.side = .left)) ∧
    (live.config.raw.writeAll (entryValues [(8, 6, 0)])).check = some { config with loopShift := 6 } := by
  have h0 : pair.slots.get 0 = some live := by simp [pair, put]
  exact ⟨held_holds _ _ _, h0, by simp [pair], by simp [pair, put, ready_slots], by decide, by decide,
    ⟨by decide, rfl, by decide⟩, ⟨by decide, 0, live, by decide, h0, rfl, rfl⟩, by decide⟩

theorem witness_ReadLinkTellsEveryField :
    (held (put ready live) 0x03 [8]).Holds 0x03 7 [8] ∧ 7 < (8 : Byte).toNat ∧ ready.slots.get 7 = none ∧
    (held (put ready live) 0x03 [0]).Holds 0x03 7 [0] ∧ (put ready live).slots.get 0 = some live ∧ live.InRange :=
  ⟨held_holds _ _ _, by decide, ready_slots 7, held_holds _ _ _, by simp [put], live_in_range⟩

theorem witness_FindLinkAnswersIndexAndState :
    (held ready 0x04 [0x00, 0x0F]).Holds 0x04 7 [0x00, 0x0F] ∧ 0xEFF < (0x00 : Byte).toNat + 256 * (0x0F : Byte).toNat ∧
    (held ready 0x04 [0xFF, 0x0E]).Holds 0x04 7 [0xFF, 0x0E] ∧ (0xFF : Byte).toNat + 256 * (0x0E : Byte).toNat ≤ 0xEFF ∧
    ready.NoMatch 0xEFF ∧
    (held (put ready live) 0x04 [0x41, 0x00]).Holds 0x04 7 [0x41, 0x00] ∧ (put ready live).Matches 0x041 0 live := by
  refine ⟨held_holds _ _ _, by decide, held_holds _ _ _, by decide, fun i r h => ?_, held_holds _ _ _, put_matches _ _⟩
  simp [ready_slots] at h

theorem witness_RetireLinkFreesTheSlot :
    (held (put ready live) 0x05 [8]).Holds 0x05 7 [8] ∧ 7 < (8 : Byte).toNat ∧ ready.slots.get 7 = none ∧
    (held (put ready live) 0x05 [0]).Holds 0x05 7 [0] ∧ (put ready live).slots.get 0 = some live :=
  ⟨held_holds _ _ _, by decide, ready_slots 7, held_holds _ _ _, by simp [put]⟩

theorem witness_ReceiveChecksCountAndDiscard :
    (State.reset.phase ≠ .ready ∧ State.reset.reception = .waiting) ∧
    ({ ready with reception := .ignoring } : State).reception = .ignoring ∧
    (ready.phase = .ready ∧ ready.reception = .waiting) ∧
    (∀ begun ∈ [[], List.replicate 515 (1 : Byte), List.replicate 516 1], (receivingFrame begun).phase = .ready ∧
      (receivingFrame begun).reception = .receiving (begun.take 515) begun.length) ∧
    exec (.audioUp [1, 0x41] false) ready = .next (after (.audioUp [1, 0x41] false) ready) ∧
    (¬IsAudioUp [0x03] ∧ ¬IsLinkStatus [0x03]) ∧
    (¬IsAudioUp [0x02, 0x41, 0, 2] ∧ ¬IsLinkStatus [0x02, 0x41, 0, 2]) ∧
    IsAudioUp (frame 0) ∧ IsLinkStatus [0x02, 0x41, 0, 1] ∧ ready.NoMatch (wordAt (frame 0) 1 % 4096) ∧
    (put ready live).Matches (wordAt (frame 0) 1 % 4096) 0 live ∧ (put ready live).engine = .stopped ∧
    (calling live).Matches (wordAt (frame 0) 1 % 4096) 0 live ∧ (calling live).engine ≠ .stopped ∧
    IsAudioUp (audioUpBytes 0x041 true 0 79 []) ∧ byteAt (audioUpBytes 0x041 true 0 79 []) 4 ≠ live.config.blockLength := by
  have hw : wordAt (frame 0) 1 % 4096 = 0x041 := by decide
  rw [hw]
  refine ⟨⟨by decide, rfl⟩, rfl, ⟨rfl, rfl⟩, fun _ _ => ⟨rfl, rfl⟩, rfl, ?_, ?_, ?_, ?_, fun i r h => ?_, put_matches _ _, rfl,
    put_matches _ _, by decide, ?_, by decide⟩
  · simp [IsAudioUp, IsLinkStatus]
  · constructor
    · simp [IsAudioUp]
    · simp [IsLinkStatus, byteAt]
  · exact ⟨by decide +kernel, by decide +kernel, by decide +kernel⟩
  · exact ⟨by decide, by decide, by decide⟩
  · simp [ready_slots] at h
  · exact ⟨by decide, by decide, by decide⟩

theorem witness_AcceptedFramesWriteTheJitterQueue :
    (calling live).phase = .ready ∧ (calling live).reception = .waiting ∧ (calling live).engine ≠ .stopped ∧
    (calling live).Matches live.config.handle.toNat 0 live ∧ (List.replicate 80 (500 : Sample)).length = live.config.blockLength ∧
    live.config.blockLength ≤ 255 ∧ live.state = .live ∧ live.expected = some 4 ∧ ((4 : Byte) - 4).toNat = 0 ∧
    ((19 : Byte) - 4).toNat = 15 ∧ (holding standby).engine ≠ .stopped ∧
    (holding standby).Matches standby.config.handle.toNat 0 standby ∧ standby.state = .standby :=
  ⟨rfl, rfl, by decide, put_matches _ _, by decide, by decide, rfl, rfl, by decide, by decide, by decide, put_matches _ _, rfl⟩

theorem witness_ResyncFlushesAndPrimes :
    (calling live).phase = .ready ∧ (calling live).reception = .waiting ∧ (calling live).engine ≠ .stopped ∧
    (calling live).Matches live.config.handle.toNat 0 live ∧ (List.replicate 80 (500 : Sample)).length = live.config.blockLength ∧
    live.config.blockLength ≤ 255 ∧ live.counters.overflow ≤ 65535 ∧ live.expected = some 4 ∧
    16 ≤ ((20 : Byte) - 4).toNat ∧ ((131 : Byte) - 4).toNat = 127 ∧ live.state = .live ∧
    (calling primed).Matches primed.config.handle.toNat 0 primed ∧ primed.state = .priming ∧ primed.expected = some 4 :=
  ⟨rfl, rfl, by decide, put_matches _ _, by decide, by decide, by decide, rfl, by decide, by decide, rfl, put_matches _ _, rfl,
    rfl⟩

theorem witness_StaleFramesAreOnlyCounted :
    (calling live).phase = .ready ∧ (calling live).reception = .waiting ∧ (calling live).engine ≠ .stopped ∧
    (calling live).Matches live.config.handle.toNat 0 live ∧ (List.replicate 80 (500 : Sample)).length = live.config.blockLength ∧
    live.config.blockLength ≤ 255 ∧ live.state = .live ∧ live.expected = some 4 ∧ ((132 : Byte) - 4).toNat = 128 ∧
    ((3 : Byte) - 4).toNat = 255 :=
  ⟨rfl, rfl, by decide, put_matches _ _, by decide, by decide, rfl, rfl, by decide, by decide⟩

theorem witness_LinkStatusDownLosesTheLink :
    (put ready live).phase = .ready ∧ (put ready live).reception = .waiting ∧ (0 : Byte).toNat ≤ 1 ∧
    (put ready live).Matches (((0x41 : Byte).toNat + 256 * (0 : Byte).toNat) % 4096) 0 live ∧ live.state = .live ∧
    (1 : Byte).toNat ≤ 1 ∧ (put ready standby).Matches (((0x41 : Byte).toNat + 256 * (0x10 : Byte).toNat) % 4096) 0 standby ∧
    standby.state = .standby :=
  ⟨rfl, rfl, by decide, put_matches _ _, rfl, by decide, put_matches _ _, rfl⟩

theorem witness_QueuesKeepTheNewestAndTheOldestSamples :
    ({ live with downlink := List.replicate 768 0 }).downlink.length ≤ 768 := le_of_eq List.length_replicate

/-- A LIVE record with a block to send. -/
def loaded : LinkRecord := { live with downlink := List.replicate 80 3 }

theorem witness_TheArbiterServesTheNextReadyLink :
    let frameOf : DownFrame := ⟨6, 0x050, 0, []⟩
    let s : State := { put ready loaded with sending := some frameOf }
    let t : State := { put ready live with sending := some frameOf }
    let isReady (s : State) (i : Fin 8) : Prop :=
      ∃ r, s.slots.get i = some r ∧ r.state = .live ∧ r.config.blockLength ≤ r.downlink.length
    s.phase = .ready ∧ s.sending = some frameOf ∧ (∀ j < 0, ¬isReady s (s.arbiter + 1 + j)) ∧ isReady s (s.arbiter + 1 + 0) ∧
    s.slots.get (s.arbiter + 1 + 0) = some loaded ∧ ∀ i, ¬isReady t i := by
  intro frameOf s t isReady
  refine ⟨rfl, rfl, fun j h => absurd h (by simp), ⟨loaded, by decide, rfl, by decide⟩, by decide, ?_⟩
  rintro i ⟨r, h, _, hl⟩
  obtain ⟨-, rfl⟩ := put_ready_get live r i h
  revert hl
  decide

theorem witness_SetSeatWritesTheFourFields :
    (held ready 0x06 [4, 3, 32, 255, 0, 0, 16]).Holds 0x06 7 [4, 3, 32, 255, 0, 0, 16] ∧ 3 < (4 : Byte).toNat ∧
    (held ready 0x06 [3, 3, 32, 255, 0, 1, 16]).Holds 0x06 7 [3, 3, 32, 255, 0, 1, 16] ∧
    4096 < (1 : Byte).toNat + 256 * (16 : Byte).toNat ∧
    (held ready 0x06 [3, 3, 32, 255, 0, 0, 16]).Holds 0x06 7 [3, 3, 32, 255, 0, 0, 16] ∧
    (3 : Fin 4).val = (3 : Byte).toNat ∧ (SeatMode.prefer .right).code = (3 : Byte).toNat ∧
    ¬(3 < (3 : Byte).toNat ∨ (32 : Byte).toNat ∉ [1, 2, 4, 8, 16, 32] ∨ 255 < (255 : Byte).toNat + 256 * (0 : Byte).toNat ∨
      (0 : Byte).toNat + 256 * (16 : Byte).toNat = 0 ∨ 4096 < (0 : Byte).toNat + 256 * (16 : Byte).toNat) :=
  ⟨held_holds _ _ _, by decide, held_holds _ _ _, by decide, held_holds _ _ _, by decide, by decide, by decide⟩

theorem ready_seat_in_order (i : Fin 4) : (ready.seats.get i).InOrder := by
  simp only [ready, State.reset, Bank.get_fill]
  constructor <;> simp [SeatRecord.atReset]

theorem witness_ReadSeatTellsTheRecordAndItsSides :
    (held (put ready live) 0x07 [4]).Holds 0x07 7 [4] ∧ 3 < (4 : Byte).toNat ∧
    (held (put ready live) 0x07 [0]).Holds 0x07 7 [0] ∧ (0 : Fin 4).val = (0 : Byte).toNat ∧
    ((put ready live).seats.get 0).InOrder ∧ (put ready live).slots.get 0 = some live ∧ live.config.seat = 0 ∧
    live.config.side = .left ∧ ∀ j r, (put ready live).slots.get j = some r → ¬(r.config.seat = 0 ∧ r.config.side = .right) := by
  refine ⟨held_holds _ _ _, by decide, held_holds _ _ _, by decide, ready_seat_in_order 0, by simp [put], rfl, rfl, ?_⟩
  intro j r h
  obtain ⟨-, rfl⟩ := put_ready_get live r j h
  decide

theorem witness_DesignatorsNameGainsAndReadGain :
    (held ready 0x08 ([5, 0] ++ [0, 0])).Holds 0x08 7 ([5, 0] ++ [0, 0]) ∧ 4 < (5 : Byte).toNat ∧
    (held ready 0x09 ([0, 5] ++ [])).Holds 0x09 7 ([0, 5] ++ []) ∧ 4 < (5 : Byte).toNat ∧ (5 : Byte) ≠ 0xFF ∧
    (held ready 0x0A ([0, 0] ++ [])).Holds 0x0A 7 ([0, 0] ++ []) ∧
    (held ready 0x0C [4, 4]).Holds 0x0C 7 [4, 4] ∧ (GainName.cell (.down 3) (.voice 3)).codes = [4, 4] ∧
    ready.gains.get? (.cell (.down 3) (.voice 3)) = some ⟨0, 0, 512⟩ :=
  ⟨held_holds _ _ _, by decide, held_holds _ _ _, by decide, by decide, held_holds _ _ _, held_holds _ _ _, by decide,
    by decide⟩

theorem witness_SetGainWritesTargetAndStep :
    (held ready 0x08 [4, 4, 0xFF, 0x7F, 0xFF, 0x7F]).Holds 0x08 7
      ((GainName.cell (.down 3) (.voice 3)).codes ++ [0xFF, 0x7F] ++ [0xFF, 0x7F]) ∧
    (held ready 0x08 [0, 0xFF, 0x00, 0x80]).Holds 0x08 7 ((GainName.level .uplink).codes ++ [0x00, 0x80] ++ []) ∧
    ready.gains.get? (.cell (.down 3) (.voice 3)) = some ⟨0, 0, 512⟩ ∧
    ready.gains.get? (.level .uplink) = some ⟨0, 16384, 512⟩ ∧
    ¬32767 < (0xFF : Byte).toNat + 256 * (0x7F : Byte).toNat ∧ 32767 < (0x00 : Byte).toNat + 256 * (0x80 : Byte).toNat :=
  ⟨held_holds _ _ _, held_holds _ _ _, by decide, by decide, by decide, by decide⟩

theorem witness_FadeCutAndStepGain :
    (held ready 0x09 [4, 4]).Holds 0x09 7 (GainName.cell (.down 3) (.voice 3)).codes ∧
    (held ready 0x0A [0, 0xFF]).Holds 0x0A 7 (GainName.level .uplink).codes ∧
    ready.gains.get? (.cell (.down 3) (.voice 3)) = some ⟨0, 0, 512⟩ ∧
    ready.gains.get? (.level .uplink) = some ⟨0, 16384, 512⟩ ∧
    ((held ready 0x0B [4, 0]).Holds 0x0B 7 [4, 0] ∧ 3 < (4 : Byte).toNat) ∧
    ((held ready 0x0B [3, 2]).Holds 0x0B 7 [3, 2] ∧ (3 : Byte).toNat ≤ 3 ∧ 1 < (2 : Byte).toNat) ∧
    (held ready 0x0B [3, 0]).Holds 0x0B 7 [3, 0] ∧ (held ready 0x0B [3, 1]).Holds 0x0B 7 [3, 1] ∧
    (3 : Fin 4).val = (3 : Byte).toNat ∧ ready.gains.get? (.level (.down 3)) = some ⟨0, 16384, 512⟩ :=
  ⟨held_holds _ _ _, held_holds _ _ _, by decide, by decide, ⟨held_holds _ _ _, by decide⟩,
    ⟨held_holds _ _ _, by decide, by decide⟩, held_holds _ _ _, held_holds _ _ _, by decide, by decide⟩

theorem witness_SidetoneCeilingClampsTheOwnVoiceCells :
    (held ready 0x0D [0x01, 0x20]).Holds 0x0D 7 [0x01, 0x20] ∧ 8192 < (0x01 : Byte).toNat + 256 * (0x20 : Byte).toNat ∧
    (held ready 0x0D [0x00, 0x20]).Holds 0x0D 7 [0x00, 0x20] ∧ (0x00 : Byte).toNat + 256 * (0x20 : Byte).toNat ≤ 8192 ∧
    (held ready 0x0D [0, 0]).Holds 0x0D 7 [0, 0] ∧ 0 < ready.gains.ceiling :=
  ⟨held_holds _ _ _, by decide, held_holds _ _ _, by decide, held_holds _ _ _, by decide⟩

/-- Timer 1 on the cascade over an IDLE timer 0. -/
def cascaded : State := { ready with timers := ready.timers.set 1 ⟨4, .oneShot, .cascade, .idle, 0⟩ }

theorem cascaded_idle : cascaded.CascadeIdle 1 := ⟨by decide, 0, by decide, by decide⟩

theorem witness_TimerRequestsLoadStartStopAndRead :
    ((held ready 0x0E [4, 1, 0, 0, 0]).Holds 0x0E 7 [4, 1, 0, 0, 0] ∧ 3 < (4 : Byte).toNat) ∧
    ((held ready 0x0E [0, 1, 0, 0, 1]).Holds 0x0E 7 [0, 1, 0, 0, 1] ∧ (0 : Fin 4).val = (0 : Byte).toNat) ∧
    ((held ready 0x0E [3, 0xFF, 0xFF, 1, 1]).Holds 0x0E 7 [3, 0xFF, 0xFF, 1, 1] ∧ (3 : Fin 4).val = (3 : Byte).toNat ∧
      ¬((0xFF : Byte).toNat + 256 * (0xFF : Byte).toNat = 0 ∨ 1 < (1 : Byte).toNat ∨ 1 < (1 : Byte).toNat ∨
        ((1 : Byte) = 1 ∧ (3 : Byte) = 0))) ∧
    (held ready 0x0F [4]).Holds 0x0F 7 [4] ∧ (held ready 0x10 [3]).Holds 0x10 7 [3] ∧
    (held ready 0x11 [3]).Holds 0x11 7 [3] ∧ (ready.timers.get 3).InOrder ∧
    (held cascaded 0x0F [1]).Holds 0x0F 7 [1] ∧ (held cascaded 0x0F [1]).CascadeIdle 1 ∧
    (held cascaded 0x0F [0]).Holds 0x0F 7 [0] ∧ ¬(held cascaded 0x0F [0]).CascadeIdle 0 := by
  refine ⟨⟨held_holds _ _ _, by decide⟩, ⟨held_holds _ _ _, by decide⟩, ⟨held_holds _ _ _, by decide, by decide⟩,
    held_holds _ _ _, held_holds _ _ _, held_holds _ _ _, ⟨by decide, by decide, by decide⟩, held_holds _ _ _,
    cascaded_idle, held_holds _ _ _, ?_⟩
  rintro ⟨h, -⟩
  revert h
  decide

/-- What the body of `test_set_cue` says. -/
def preferOnTalk : CueSet where
  cause := some (.talkStart 7)
  action := .prefer 3 .right
  rep := .once
  chain := (Bank.fill 4 false).set 3 true
  notify := true
  enabled := false
  fireCount := 0

theorem preferOnTalk_said : preferOnTalk.SaidBy 0 3 7 7 3 1 0 0 0 1 [3] := by
  constructor
  · decide
  · decide
  · intro g v h
    cases h
  · decide
  · decide
  · decide
  · decide
  · decide

theorem witness_SetEnableAndDisableCue :
    ((held ready 0x12 [4, 0, 0, 0, 0, 0, 0, 0, 0, 0, 0]).Holds 0x12 7 ([4, 0, 0, 0, 0, 0, 0, 0, 0, 0, 0] ++ []) ∧
      3 < (4 : Byte).toNat) ∧
    ((held ready 0x12 [0, 10, 0, 0, 0, 0, 0, 0, 0, 0, 0]).Holds 0x12 7 ([0, 10, 0, 0, 0, 0, 0, 0, 0, 0, 0] ++ []) ∧
      ∀ c : CueSet, ¬c.SaidBy 0 10 0 0 0 0 0 0 0 0 []) ∧
    ((held ready 0x12 [0, 3, 7, 7, 3, 1, 0, 0, 0, 1, 1, 3]).Holds 0x12 7 ([0, 3, 7, 7, 3, 1, 0, 0, 0, 1, 1] ++ [3]) ∧
      preferOnTalk.SaidBy 0 3 7 7 3 1 0 0 0 1 [3] ∧ (1 : Byte).toNat = [(3 : Byte)].length) ∧
    (∃ c : CueSet, c.SaidBy 3 0 0 3 0 0 0 0 1 0 [] ∧ c.action = .cut (.cell .uplink .far)) ∧
    (held ready 0x13 [4]).Holds 0x13 7 [4] ∧ (held ready 0x13 [3]).Holds 0x13 7 [3] ∧ ready.cueFault = none ∧
    (held { ready with cueFault := some ⟨0, .sideEmpty⟩ } 0x13 [3]).cueFault ≠ none ∧
    (held ready 0x14 [4]).Holds 0x14 7 [4] ∧ (held ready 0x14 [3]).Holds 0x14 7 [3] := by
  refine ⟨⟨held_holds _ _ _, by decide⟩, ⟨held_holds _ _ _, ?_⟩, ⟨held_holds _ _ _, preferOnTalk_said, by decide⟩,
    ⟨{ CueSet.atReset with action := .cut (.cell .uplink .far) }, ?_, rfl⟩, held_holds _ _ _, held_holds _ _ _, rfl,
    by decide, held_holds _ _ _, held_holds _ _ _⟩
  · intro c h
    have := h.cause.1
    cases hc : c.cause with
    | none => simp [hc, causeCode] at this
    | some x => cases x <;> simp [hc, causeCode] at this
  · constructor
    · decide
    · decide
    · intro g v h
      cases h
    · decide
    · decide
    · decide
    · decide
    · decide

theorem witness_ReadCueTellsTheWholeSet :
    ((held ready 0x16 [4]).Holds 0x16 7 [4] ∧ 3 < (4 : Byte).toNat) ∧ (held ready 0x16 [0]).Holds 0x16 7 [0] ∧
    ((armed ready preferOnTalk).cues.get 0).InOrder 0 ∧
    ({ ready with cueFault := some ⟨3, .cascadeIdle⟩ } : State).cueFault = some ⟨3, .cascadeIdle⟩ := by
  refine ⟨⟨held_holds _ _ _, by decide⟩, held_holds _ _ _, ?_, rfl⟩
  constructor
  · decide
  · intro g v h
    have : ((armed ready preferOnTalk).cues.get 0).action = .prefer 3 .right := by simp [armed, preferOnTalk]
    rw [this] at h
    cases h
  · decide
  · decide

theorem no_fault_of_none (s : State) (reason : FaultReason) : ¬s.Faults .none reason := by
  rintro (⟨seat, side, h, -⟩ | ⟨i, h, -⟩) <;> cases h

theorem witness_FireCueFiresTheNamedSet :
    ((held ready 0x15 [4]).Holds 0x15 7 [4] ∧ 3 < (4 : Byte).toNat) ∧
    ((held ready 0x15 [3]).Holds 0x15 7 [3] ∧ (ready.cues.get 3).enabled = false) ∧
    ((held (armed ready (cue .none)) 0x15 [0]).Holds 0x15 7 [0] ∧ ((armed ready (cue .none)).cues.get 0).enabled = true ∧
      ∀ reason, ¬(held (armed ready (cue .none)) 0x15 [0]).Faults ((armed ready (cue .none)).cues.get 0).action reason) ∧
    (((armed cascaded (cue (.startTimer 1))).cues.get 0).enabled = true ∧
      (armed cascaded (cue (.startTimer 1))).Faults ((armed cascaded (cue (.startTimer 1))).cues.get 0).action
        .cascadeIdle) ∧
    (held ready 0x15 [0]).Faults (.prefer 3 .right) .sideEmpty := by
  refine ⟨⟨held_holds _ _ _, by decide⟩, ⟨held_holds _ _ _, by decide⟩, ⟨held_holds _ _ _, by decide, ?_⟩,
    ⟨by decide, .cascadeIdle 1 (by simp [armed, cue]) cascaded_idle⟩, .sideEmpty ⟨3, .right, rfl, ?_⟩⟩
  · intro reason
    simpa [armed, cue] using no_fault_of_none _ reason
  · intro i r h
    exact absurd h (by simp [held, ready_slots])

theorem witness_CueActionsWriteAsTheTableSays :
    ready.gains.get? (.cell (.down 3) (.voice 3)) = some ⟨0, 0, 512⟩ ∧
    ready.gains.get? (.level .uplink) = some ⟨0, 16384, 512⟩ ∧
    ready.gains.get? (.level (.down 3)) = some ⟨0, 16384, 512⟩ ∧ (ready.seats.get 3).stepSize = 1024 := by decide

theorem witness_CueGroupsAreHandledInAscendingOrder :
    (((armed ready (cue .none)).cues.get 0).enabled = true ∧
      ∃ cause ∈ [Cause.timer 0], ((armed ready (cue .none)).cues.get 0).cause = some cause) ∧
    (ready.cues.get 3).enabled = false ∧ (∀ reason, ¬ready.Faults .none reason) ∧
    (armed cascaded (cue (.startTimer 1))).Faults (.startTimer 1) .cascadeIdle ∧
    preferOnTalk.chain.get 3 = true ∧ preferOnTalk.chain.get 0 = false :=
  ⟨by decide, by decide, no_fault_of_none _, .cascadeIdle 1 rfl cascaded_idle, by decide, by decide⟩

theorem witness_CueGroupsWriteNoMoreThanTheirActions :
    ready.gains.get? (.level .uplink) = some ⟨0, 16384, 512⟩ ∧
    (armed ready { cue (.fade (.level .uplink)) with notify := true }).handleGroup [.timer 0] ≠
      armed ready { cue (.fade (.level .uplink)) with notify := true } ∧
    ({ ready with notices := ready.notices.raise .cue, cueFault := some ⟨3, .sideEmpty⟩ } : State).cueFault =
      some ⟨3, .sideEmpty⟩ := by
  refine ⟨by decide, fun h => ?_, rfl⟩
  have := congrArg (fun s => s.notices.cue) h
  revert this
  decide

theorem witness_CallStartAndCallEnd :
    ((held ready 0x17 []).Holds 0x17 7 [] ∧ (held ready 0x17 []).engine = .stopped ∧
      (held ready 0x17 []).pcm.lock = .unlocked) ∧
    { ready.pcm with lock := .locked }.lock = .locked ∧
    ((held (calling live) 0x17 []).Holds 0x17 7 [] ∧ (held (calling live) 0x17 []).engine ≠ .stopped) ∧
    ((held (calling live) 0x18 []).Holds 0x18 7 [] ∧ (held (calling live) 0x18 []).engine ≠ .stopped) ∧
    (held ready 0x18 []).Holds 0x18 7 [] :=
  ⟨⟨held_holds _ _ _, rfl, rfl⟩, rfl, ⟨held_holds _ _ _, by decide⟩, ⟨held_holds _ _ _, by decide⟩, held_holds _ _ _⟩

theorem witness_CallClearClearsTheCall : (held (calling live) 0x19 []).Holds 0x19 7 [] := held_holds _ _ _

theorem witness_ClearClipAndReadPortCounters :
    ((held ready 0x1D [0, 1, 2, 3, 4]).Holds 0x1D 7 [0, 1, 2, 3, 4] ∧ [(0 : Byte), 1, 2, 3, 4].length ≤ 5 ∧
      [(0 : Byte), 1, 2, 3, 4].Nodup ∧ ¬∃ b ∈ [(0 : Byte), 1, 2, 3, 4], 4 < b.toNat) ∧
    ((held ready 0x1D [5]).Holds 0x1D 7 [5] ∧ ∃ b ∈ [(5 : Byte)], 4 < b.toNat) ∧
    (∀ o, (ready.clipOf o).count ≤ 65535) ∧ (held ready 0x1E []).Holds 0x1E 7 [] ∧
    (held ready 0x1E []).ReportsInOrder ∧ ready.holdover ≤ 65535 := by
  have clips : ∀ o, (ready.clipOf o).count ≤ 65535 := by
    rintro (_ | d)
    · decide
    · revert d
      decide
  refine ⟨⟨held_holds _ _ _, by decide, by decide, by decide⟩, ⟨held_holds _ _ _, by decide⟩, clips, held_holds _ _ _,
    ⟨?_, ?_, ?_, ?_, ?_, ?_, ?_, ?_, clips, by decide, by decide⟩, by decide⟩
  · intro h e
    cases e
    decide
  · intro r e
    cases e
  · intro t e
    cases e
  · intro t r e
    cases e
  · intro buffer count e
    cases e
  · simp [held, ready, State.reset]
  · simp [held, ready, State.reset]
  · simp [held, ready, State.reset]

theorem witness_TicksOutsideHoldover :
    (put ready live).phase = .ready ∧ (put ready live).engine ≠ .holdover ∧ (put ready live).engine = .stopped ∧
    (calling live).engine = .call ∧ (calling live).pcm.seen = true ∧ (calling live).pcm.lock = .locked ∧
    { (calling live).pcm with seen := false }.seen = false := ⟨rfl, by decide, rfl, rfl, rfl, rfl, rfl⟩

theorem witness_TicksInHoldoverPaceAndEndTheCall :
    (holding live).phase = .ready ∧ (holding live).engine = .holdover ∧ (holding live).pass = none ∧
    2000 ≤ { holding live with holdover := 1999 }.holdover + 1 ∧
    { holding live with holdover := 1998, ticks := 2 }.holdover + 1 < 2000 ∧
    { holding live with holdover := 1998, ticks := 2 }.ticks < 3 ∧ 3 ≤ { holding live with ticks := 3 }.ticks ∧
    { holding live with ticks := 3, pass := some snapshot }.pass = some snapshot ∧
    (∀ i l, snapshot.links.get i = some l → l.InRange) ∧ ready.engine ≠ .holdover :=
  ⟨rfl, rfl, rfl, by decide, by decide, by decide, by decide, rfl, snapshot_in_range, by decide⟩

theorem witness_ExpiryRowsAreTheTickThatExpires :
    (holding { live with remaining := 1 }).phase = .ready ∧
    (holding { live with remaining := 1 }).slots.get 0 = some { live with remaining := 1 } ∧
    ({ live with remaining := 1 } : LinkRecord).Expiring ∧ (holding { live with remaining := 1 }).engine = .holdover ∧
    2000 ≤ { holding { live with remaining := 1 } with holdover := 1999 }.holdover + 1 ∧
    { holding { live with remaining := 1 } with holdover := 1998, ticks := 3 }.holdover + 1 < 2000 ∧
    3 ≤ { holding { live with remaining := 1 } with holdover := 1998, ticks := 3 }.ticks ∧
    ¬({ live with remaining := 2 } : LinkRecord).Expiring ∧ ready.slots.get 7 = none ∧
    TimerExpires (ready.timers.set 3 ⟨5, .periodic, .tick, .running, 1⟩) 3 ∧ ¬TimerExpires ready.timers 3 ∧
    ready.NoCueEnabled := by
  refine ⟨rfl, by simp [holding, put], ⟨.inr rfl, rfl⟩, rfl, by decide, by decide, by decide, ?_, ready_slots 7,
    .tick 3 (by decide) (by decide) (by decide), ?_, ?_⟩
  · rintro ⟨-, h⟩
    cases h
  · rintro (⟨_, h, -⟩ | ⟨_, _, -, -, h, -⟩) <;> exact absurd h (by decide)
  · intro j
    simp [ready, State.reset, CueSet.atReset]

theorem witness_FrameSyncsOutsideCallDetectTheLock :
    (holding live).phase = .ready ∧ (holding live).engine ≠ .call ∧ (holding live).pcm.lock = .unlocked ∧
    { (holding live).pcm with run := 62 }.run + 1 < 64 ∧ 64 ≤ { (holding live).pcm with run := 63 }.run + 1 ∧
    (holding live).engine = .holdover ∧ ready.engine = .stopped ∧ ready.engine ≠ .call ∧
    { ready.pcm with lock := .locked }.lock = .locked :=
  ⟨rfl, by decide, rfl, by decide, by decide, rfl, rfl, by decide, rfl⟩

theorem witness_FrameSyncsInCallTransferAndStartPasses :
    (calling live).phase = .ready ∧ (calling live).engine = .call ∧ (calling live).pcm.lock = .locked ∧
    { (calling live).pcm with farEnd := List.replicate 127 1 }.farEnd.length < 128 ∧
    { (calling live).pcm with farEnd := List.replicate 128 1 }.farEnd.length = 128 ∧
    (calling live).pcm.side = .waiting ∧ (calling live).pcm.uplink = [] ∧
    { (calling live).pcm with b := 31, uplink := [5, 6] }.b + 1 = 32 ∧
    { (calling live).pcm with side := .sending, uplink := [] }.side = .sending ∧
    { (calling live).pcm with b := 62 }.b + 1 < 64 ∧ 64 ≤ { (calling live).pcm with b := 63 }.b + 1 ∧
    (calling live).pass = none ∧ { calling live with pass := some snapshot }.pass = some snapshot ∧
    (∀ i l, snapshot.links.get i = some l → l.InRange) :=
  ⟨rfl, rfl, rfl, by simp, by simp, rfl, rfl, by decide, rfl, by decide, by decide, rfl, rfl, snapshot_in_range⟩

/-- The event of a boundary that a call's sync brings about. -/
def boundary (s : State) : Event := { st := s, causes := [] }

theorem witness_PassStartsPrimeAndSupplyTheLinks :
    (boundary (calling live)).st.slots.get 7 = none ∧ (boundary (calling live)).st.slots.get 0 = some live ∧ live.Joins ∧
    primed.Joins ∧ ¬standby.Joins ∧ ¬({ primed with jitter := List.replicate 225 0 } : LinkRecord).Joins := by
  refine ⟨by simp [boundary, calling, put, ready_slots], by simp [boundary, calling, put], .inl rfl, .inr ⟨rfl, by decide +kernel⟩,
    ?_, ?_⟩
  · rintro (h | ⟨h, -⟩) <;> cases h
  · rintro (h | ⟨-, h⟩)
    · cases h
    · revert h
      decide +kernel

theorem witness_PassStartsFixTheSnapshot :
    (boundary (calling live)).st.slots.get 0 = some live ∧ live.Joins ∧ live.primedRecord.positionAt 63 = 63 * 2 ^ 24 ∧
    live.primedRecord.positionAt 63 / 2 ^ 24 + 1 < live.jitter.length ∧
    (List.replicate 64 (0 : Sample)).length ≤ live.primedRecord.positionAt 63 / 2 ^ 24 + 1 := by
  have h : live.primedRecord.positionAt 63 = 63 * 2 ^ 24 := by decide
  rw [h]
  exact ⟨by simp [boundary, calling, put], .inl rfl, rfl, by decide, by decide⟩

/-- A call whose seat 0 has both earbuds LIVE, or its LEFT one alone, and this seat record. -/
def seated (both : Bool) (r : SeatRecord) : State :=
  let s := calling live
  { s with
    slots := if both then s.slots.set 1 (some { other with state := .live }) else s.slots
    seats := s.seats.set 0 r }

/-- A record of the LIVE set on this side of this seat. -/
def SideJoins (s : State) (seat : Fin 4) (side : Side) : Prop :=
  ∃ j l, s.slots.get j = some l ∧ l.Joins ∧ l.config.seat = seat ∧ l.config.side = side

theorem left_joins (both : Bool) (r : SeatRecord) : SideJoins (seated both r) 0 .left := by
  cases both <;> exact ⟨0, live, by simp [seated, calling, put], .inl rfl, rfl, rfl⟩

theorem right_joins (r : SeatRecord) : SideJoins (seated true r) 0 .right :=
  ⟨1, { other with state := .live }, by simp [seated], .inl rfl, rfl, rfl⟩

theorem right_alone_joins_not (r : SeatRecord) : ¬SideJoins (seated false r) 0 .right := by
  rintro ⟨j, l, h, -, -, hs⟩
  obtain ⟨-, rfl⟩ := put_ready_get live l j h
  cases hs

theorem none_joins (seat : Fin 4) (side : Side) : ¬SideJoins ready seat side := by
  rintro ⟨j, l, h, -⟩
  simp [ready_slots] at h

/-- Each clause of the selection: FIXED with its side in the LIVE set and without; PREFER with both sides in it, one pass
below the return hold of 50 and at it, with the voice elsewhere, with one side alone, and with none; and each clause of a
switch. -/
theorem witness_PassStartsSelectTheVoices :
    let fixedAt (side : Side) : SeatRecord := { SeatRecord.atReset with mode := .fixed side }
    let returning (stable : Nat) : SeatRecord := { SeatRecord.atReset with voice := some .right, stable }
    let moving : SeatRecord := { returning 49 with crossfade := some ⟨.left, .right, 3, 8⟩ }
    (((seated false (fixedAt .left)).seats.get 0).mode = .fixed .left ∧ SideJoins (seated false (fixedAt .left)) 0 .left) ∧
    (((seated false (fixedAt .right)).seats.get 0).mode = .fixed .right ∧
      ¬SideJoins (seated false (fixedAt .right)) 0 .right) ∧
    (∀ stable ∈ [49, 50], ((seated true (returning stable)).seats.get 0).mode = .prefer .left ∧
      ((seated true (returning stable)).seats.get 0).voice = some .right ∧
      SideJoins (seated true (returning stable)) 0 .left ∧ SideJoins (seated true (returning stable)) 0 .right) ∧
    (¬(returning 49).returnHold + 1 ≤ (returning 49).stable + 1 ∧ (returning 50).returnHold + 1 ≤ (returning 50).stable + 1) ∧
    ((seated true (returning 50)).seats.get 0).voice = some .right ∧
    (((seated true SeatRecord.atReset).seats.get 0).voice = none ∧ SideJoins (seated true SeatRecord.atReset) 0 .left) ∧
    ¬SideJoins (seated false (returning 49)) 0 .right ∧
    (SideJoins (seated false { returning 49 with mode := .prefer .right }) 0 .left ∧
      ¬SideJoins (seated false { returning 49 with mode := .prefer .right }) 0 .right) ∧
    ((ready.seats.get 3).mode = .prefer .left ∧ ¬SideJoins ready 3 .left ∧ ¬SideJoins ready 3 .right) ∧
    ((returning 50).crossfade = none ∧ moving.crossfade = some ⟨.left, .right, 3, 8⟩ ∧
      ((seated true moving).seats.get 0).crossfade = some ⟨.left, .right, 3, 8⟩) := by
  intro fixedAt returning moving
  exact ⟨⟨rfl, left_joins _ _⟩, ⟨rfl, right_alone_joins_not _⟩, fun _ _ => ⟨rfl, rfl, left_joins _ _, right_joins _⟩,
    ⟨by decide, by decide⟩, rfl, ⟨rfl, left_joins _ _⟩, right_alone_joins_not _,
    ⟨left_joins _ _, right_alone_joins_not _⟩, ⟨by decide, none_joins _ _, none_joins _ _⟩, rfl, rfl, rfl⟩

theorem witness_ResamplersStayInTheirBounds :
    (16777215 < 2 ^ 24 ∧ (-16384 : Int) ≤ -16384 ∧ (16384 : Int) ≤ 16384) ∧ 2 ^ 24 + 16384 ≤ 2 ^ 24 + 16384 ∧
    32767 ≤ 32767 := by decide

theorem witness_TheMixIsExactUntilItSaturates :
    (∀ t, snapshot.uplinkGains.get t ≤ 32767) ∧ (∀ d, snapshot.farGains.get d ≤ 32767) ∧
    (∀ d t, (snapshot.voiceGains.get d).get t ≤ 32767) ∧ (snapshot.seats.get 0).voice = none ∧
    (∀ seat x, (snapshot.seats.get seat).crossfade = some x → 1 ≤ x.k ∧ x.k ≤ x.n) ∧
    (let n : Snapshot := { snapshot with
      seats := snapshot.seats.set 0 { snapshot.seats.get 0 with voice := some .right, crossfade := some ⟨.left, .right, 8, 8⟩ } }
    (n.seats.get 0).voice = some .right ∧ (n.seats.get 0).crossfade = some ⟨.left, .right, 8, 8⟩) ∧
    (let n : Snapshot := { snapshot with
      seats := snapshot.seats.set 3 { snapshot.seats.get 3 with left := some 0, right := some 7 } }
    (n.seats.get 3).left = some 0 ∧ (∃ l, n.links.get 0 = some l) ∧ (n.seats.get 3).right = some 7 ∧
      n.links.get 7 = none) ∧
    (snapshot.seats.get 0).left = none ∧
    ready.gains.get? (.cell (.down 3) (.voice 3)) = some ⟨0, 0, 512⟩ ∧
    ready.gains.get? (.level (.down 3)) = some ⟨0, 16384, 512⟩ := by
  refine ⟨by decide, by decide, by decide, by decide, ?_, ⟨by simp, by simp⟩,
    ⟨by simp, ⟨_, rfl⟩, by simp, by decide⟩, by decide, by decide, by decide⟩
  intro seat x h
  have : (snapshot.seats.get seat).crossfade = none := by
    revert seat
    intro seat _
    simp [snapshot, State.snapshot, State.passSeat, ready, State.reset, SeatRecord.atReset]
  rw [this] at h
  cases h

/-- The part in a call with the pass of `snapshot` in flight and its completion waiting. -/
def midPass : State := { calling live with pass := some snapshot, pending := [.passCompletion] }

theorem witness_PassCompletionDoesAllItsStages :
    midPass.phase = .ready ∧ midPass.pass = some snapshot ∧ (∀ i l, snapshot.links.get i = some l → l.InRange) ∧
    ready.pass = none ∧ { midPass with sending := some ⟨1, 2, 3, []⟩ }.sending = some ⟨1, 2, 3, []⟩ :=
  ⟨rfl, rfl, snapshot_in_range, rfl, rfl⟩

theorem midPass_slots (i : Fin 8) (r : LinkRecord) (h : midPass.slots.get i = some r) : i = 0 ∧ r = live :=
  put_ready_get live r i h

theorem midPass_steps : ∃ t, step midPass = .next t := ⟨_, rfl⟩

theorem witness_EveryStepKeepsTheLinksInOrder : midPass.LinksInOrder ∧ ∃ t, step midPass = .next t := by
  refine ⟨⟨?_, ?_, ?_⟩, midPass_steps⟩
  · intro i r h
    obtain ⟨-, rfl⟩ := midPass_slots i r h
    exact live_in_range
  · intro i r h
    obtain ⟨-, rfl⟩ := midPass_slots i r h
    constructor <;> decide
  · intro n h
    cases h
    exact snapshot_in_range

theorem witness_EveryStepKeepsTheTableInOrder : midPass.TableInOrder ∧ ∃ t, step midPass = .next t := by
  refine ⟨⟨?_, ?_, ?_⟩, midPass_steps⟩
  · intro i j q r hij hq hr
    exact absurd ((midPass_slots i q hq).1.trans (midPass_slots j r hr).1.symm) hij
  · intro i j q r hij hq hr
    exact absurd ((midPass_slots i q hq).1.trans (midPass_slots j r hr).1.symm) hij
  · intro n i r hn h _
    cases hn
    obtain ⟨rfl, rfl⟩ := midPass_slots i r h
    exact ⟨live.forPass, by simp [snapshot, State.snapshot, passLinks, put, live], rfl, rfl⟩

theorem witness_EveryStepKeepsTheEngineInOrder : midPass.EngineInOrder ∧ ∃ t, step midPass = .next t := by
  refine ⟨?_, midPass_steps⟩
  have notStopped : ¬midPass.engine = .stopped := by decide
  constructor
  · intro _
    rfl
  · exact fun h => absurd h notStopped
  · exact fun h => absurd h notStopped
  · exact fun h => absurd h notStopped
  · exact fun h => absurd h notStopped
  all_goals decide

theorem witness_EveryStepKeepsTheRecordsInOrder : midPass.RecordsInOrder ∧ ∃ t, step midPass = .next t := by
  refine ⟨⟨⟨?_, by decide, ?_⟩, ?_, by decide, ready_seat_in_order, ?_⟩, midPass_steps⟩
  · intro name x h
    have : x.current = 0 ∧ x.target ≤ 32767 ∧ x.step = 512 := by
      rcases name with ⟨_ | d, _ | t⟩ | (_ | d) <;>
        simp [midPass, calling, put, ready, State.reset, Gains.atReset, Gain.atReset, Gains.get?, Gains.level] at h <;>
        subst h <;> simp
      split <;> simp
    exact ⟨by omega, this.2.1, by omega, by omega⟩
  · intro name x own h
    rcases name with ⟨_ | d, _ | t⟩ | (_ | d) <;> simp [GainName.isOwn] at own
    subst own
    simp [midPass, calling, put, ready, State.reset, Gains.atReset, Gain.atReset, Gains.get?] at h
    subst h
    simp
  · intro i
    have : midPass.timers.get i = Timer.atReset := by simp [midPass, calling, put, ready, State.reset]
    rw [this]
    exact ⟨by decide, by decide, by decide⟩
  · intro j
    have : midPass.cues.get j = CueSet.atReset := by simp [midPass, calling, put, ready, State.reset]
    rw [this]
    constructor
    · decide
    · intro g v h
      cases h
    · decide
    · simp [CueSet.atReset]

/-- The part taking a transaction and receiving a frame while a response waits. -/
def busyPorts : State :=
  let r : Response := ⟨0x1F, 9, .ok, [0x3D]⟩
  { midPass with
    iface := .responsePending r, transaction := .taken ⟨0xC0, some r, some 0x02, [0], 1⟩
    reception := .receiving [1, 0x41] 2 }

theorem witness_EveryStepKeepsTheReportsInOrder : busyPorts.ReportsInOrder ∧ ∃ t, step busyPorts = .next t := by
  refine ⟨⟨?_, ?_, ?_, ?_, ?_, ?_, ?_, ?_, ?_, by decide, by decide⟩, ⟨_, rfl⟩⟩
  · intro h e
    cases e
  · intro r e
    cases e
    decide
  · intro t e
    cases e
    exact ⟨rfl, rfl, fun h => nomatch h⟩
  · intro t r e h
    cases e
    cases h
    rfl
  · intro buffer count e
    cases e
    exact ⟨rfl, rfl⟩
  · simp [busyPorts, midPass, calling, put, ready, State.reset]
  · simp [busyPorts, midPass, calling, put, ready, State.reset]
  · simp [busyPorts, midPass, calling, put, ready, State.reset]
  · rintro (_ | d)
    · decide
    · revert d
      decide

end Sys2Proof.Tests
end

section
/-! SUPPORT. A response body as a table of little-endian fields, each of its width, and how the bytes at a field's offset
tell its value. -/

namespace Sys2Proof.Machine

open Sys2Proof

/-- The bytes of a table of fields, each a width in bytes and a value (section 11.2). -/
def layOut (fields : List (Nat × Nat)) : List Byte := fields.flatMap fun f => leBytes f.1 f.2

/-- The field of a table that begins at an offset of its bytes. The match on the offset keeps it a literal, so that `rfl` finds
the field of a concrete table. -/
def fieldAt : List (Nat × Nat) → Nat → Option (Nat × Nat)
  | [], _ => none
  | f :: _, 0 => some f
  | f :: fields, k + 1 => if k + 1 < f.1 then none else fieldAt fields (k + 1 - f.1)

/-- Every value of a table fits its width. -/
def FieldsFit (fields : List (Nat × Nat)) : Prop := ∀ f ∈ fields, f.2 < 256 ^ f.1

@[simp] theorem length_leBytes (n v : Nat) : (leBytes n v).length = n := by
  induction n generalizing v with
  | zero => rfl
  | succ n ih => simp [leBytes, ih]

/-- Byte `j` of a little-endian field, with anything behind the field. -/
theorem byteAt_leBytes_append (n v j : Nat) (rest : List Byte) (hj : j < n) :
    byteAt (leBytes n v ++ rest) j = v / 256 ^ j % 256 := by
  induction n generalizing v j with
  | zero => omega
  | succ n ih =>
    cases j with
    | zero => simp [leBytes, byteAt]
    | succ j =>
      calc byteAt (leBytes (n + 1) v ++ rest) (j + 1)
          = byteAt (leBytes n (v / 256) ++ rest) j := by simp [leBytes, byteAt]
        _ = v / 256 / 256 ^ j % 256 := ih (v / 256) j (by omega)
        _ = v / 256 ^ (j + 1) % 256 := by rw [Nat.div_div_eq_div_mul, Nat.pow_succ']

theorem byteAt_append_right (xs ys : List Byte) {k : Nat} (h : xs.length ≤ k) :
    byteAt (xs ++ ys) k = byteAt ys (k - xs.length) := by
  simp [byteAt, List.getElem?_append_right h]

section

variable {fields : List (Nat × Nat)} {k w v : Nat}

/-- The field at an offset behind the front of a table is one of those behind the first. -/
theorem fieldAt_cons_succ {f g : Nat × Nat} (h : fieldAt (g :: fields) (k + 1) = some f) :
    g.1 ≤ k + 1 ∧ fieldAt fields (k + 1 - g.1) = some f := by
  rw [fieldAt] at h
  split at h
  · cases h
  · exact ⟨by omega, h⟩

theorem mem_of_fieldAt {f : Nat × Nat} (h : fieldAt fields k = some f) : f ∈ fields := by
  induction fields generalizing k with
  | nil => cases h
  | cons g fields ih =>
    cases k with
    | zero =>
      cases h
      exact List.mem_cons_self
    | succ k => exact List.mem_cons_of_mem _ (ih (fieldAt_cons_succ h).2)

/-- Byte `j` of the field at offset `k`. -/
theorem byteAt_layOut (h : fieldAt fields k = some (w, v)) (j : Nat) (hj : j < w) :
    byteAt (layOut fields) (k + j) = v / 256 ^ j % 256 := by
  induction fields generalizing k with
  | nil => cases h
  | cons g fields ih =>
    have hcons : layOut (g :: fields) = leBytes g.1 g.2 ++ layOut fields := List.flatMap_cons
    rw [hcons]
    cases k with
    | zero =>
      cases h
      rw [Nat.zero_add, byteAt_leBytes_append w v j _ hj]
    | succ k =>
      obtain ⟨hle, hrest⟩ := fieldAt_cons_succ h
      have hlen : (leBytes g.1 g.2).length ≤ k + 1 + j := by rw [length_leBytes]; omega
      have hoff : k + 1 + j - g.1 = k + 1 - g.1 + j := by omega
      rw [byteAt_append_right _ _ hlen, length_leBytes, hoff, ih hrest]

/-- A one-byte field is told by the byte at its offset. -/
theorem byteAt_of_fit (hfit : FieldsFit fields) (h : fieldAt fields k = some (1, v)) : byteAt (layOut fields) k = v := by
  have hv : v < 256 ^ 1 := hfit _ (mem_of_fieldAt h)
  have h0 : byteAt (layOut fields) k = v / 256 ^ 0 % 256 := byteAt_layOut h 0 (by omega)
  omega

/-- A two-byte field is told by the word at its offset. -/
theorem wordAt_of_fit (hfit : FieldsFit fields) (h : fieldAt fields k = some (2, v)) : wordAt (layOut fields) k = v := by
  have hv : v < 256 ^ 2 := hfit _ (mem_of_fieldAt h)
  have h0 : byteAt (layOut fields) k = v / 256 ^ 0 % 256 := byteAt_layOut h 0 (by omega)
  have h1 : byteAt (layOut fields) (k + 1) = v / 256 ^ 1 % 256 := byteAt_layOut h 1 (by omega)
  unfold wordAt
  omega

/-- A three-byte field is told by the word and the byte at its offset. -/
theorem wordAt_byteAt_of_fit (hfit : FieldsFit fields) (h : fieldAt fields k = some (3, v)) :
    wordAt (layOut fields) k + 65536 * byteAt (layOut fields) (k + 2) = v := by
  have hv : v < 256 ^ 3 := hfit _ (mem_of_fieldAt h)
  have h0 : byteAt (layOut fields) k = v / 256 ^ 0 % 256 := byteAt_layOut h 0 (by omega)
  have h1 : byteAt (layOut fields) (k + 1) = v / 256 ^ 1 % 256 := byteAt_layOut h 1 (by omega)
  have h2 : byteAt (layOut fields) (k + 2) = v / 256 ^ 2 % 256 := byteAt_layOut h 2 (by omega)
  unfold wordAt
  omega

/-- A four-byte field is told by the two words at its offset. -/
theorem wordAt_wordAt_of_fit (hfit : FieldsFit fields) (h : fieldAt fields k = some (4, v)) :
    wordAt (layOut fields) k + 65536 * wordAt (layOut fields) (k + 2) = v := by
  have hv : v < 256 ^ 4 := hfit _ (mem_of_fieldAt h)
  have h0 : byteAt (layOut fields) k = v / 256 ^ 0 % 256 := byteAt_layOut h 0 (by omega)
  have h1 : byteAt (layOut fields) (k + 1) = v / 256 ^ 1 % 256 := byteAt_layOut h 1 (by omega)
  have h2 : byteAt (layOut fields) (k + 2) = v / 256 ^ 2 % 256 := byteAt_layOut h 2 (by omega)
  have h3 : byteAt (layOut fields) (k + 2 + 1) = v / 256 ^ 3 % 256 := byteAt_layOut h 3 (by omega)
  unfold wordAt
  omega

end

end Sys2Proof.Machine
end

section
/-! SUPPORT. What an index and a handle name in the link table, and what READ LINK and FIND LINK answer of it. -/

namespace Sys2Proof.Machine

open Sys2Proof

variable {s : State}

/-- An index above 7 names no slot. -/
theorem recordAt_of_above {v : Nat} (h : 7 < v) : s.recordAt v = .error .badIndex := by
  have hv : ¬v < 8 := by omega
  simp [State.recordAt, index?, hv]

/-- The index of a FREE slot names no record. -/
theorem recordAt_of_free {i : Fin 8} (h : s.slots.get i = none) : s.recordAt i.val = .error .noRecord := by
  simp [State.recordAt, index?, h]

/-- The index of a slot that is not FREE names its record. -/
theorem recordAt_of_record {i : Fin 8} {r : LinkRecord} (h : s.slots.get i = some r) :
    s.recordAt i.val = .ok (i, r) := by
  simp [State.recordAt, index?, h]

/-- READ LINK taken: the owner's answer for the index. -/
theorem exec_readLink_of_holds {tag index : Byte} (h : s.Holds 0x03 tag [index]) :
    exec .readLink s = .next ((readLink s index.toNat).answer 0x03 tag) :=
  congrArg Host.Outcome.next (takeRequest_of_holds bodyByte readLink h (by simp) rfl)

/-- FIND LINK taken: the owner's answer for the handle. -/
theorem exec_findLink_of_holds {tag lo hi : Byte} (h : s.Holds 0x04 tag [lo, hi]) :
    exec .findLink s = .next ((findLink s (lo.toNat + 256 * hi.toNat)).answer 0x04 tag) :=
  congrArg Host.Outcome.next (takeRequest_of_holds bodyWord findLink h (by simp) rfl)

/-- An index that names no record is refused as the table says. -/
theorem readLink_of_error {v : Nat} {e : Status} (h : s.recordAt v = .error e) : readLink s v = refuse s e := by
  simp [readLink, h]

/-- An index that names a record is answered with the record's body. -/
theorem readLink_of_record {v : Nat} {i : Fin 8} {r : LinkRecord} (h : s.recordAt v = .ok (i, r)) :
    readLink s v = { st := s, body := r.body i } := by
  simp [readLink, h]

/-- A value above 0xEFF is no handle. -/
theorem findLink_of_above {handle : Nat} (h : 0xEFF < handle) : findLink s handle = refuse s .badValue := by
  have hle : ¬handle ≤ Config.handleMax := by simpa using h
  simp only [findLink, hle, if_false]

/-- A handle that no record holds. -/
theorem findLink_of_noMatch {handle : Nat} (h : handle ≤ 0xEFF) (hn : s.NoMatch handle) :
    findLink s handle = refuse s .noRecord := by
  have hnone : s.recordOf handle = none := (recordOf_eq_none s handle).mpr hn
  have hle : handle ≤ Config.handleMax := h
  simp only [findLink, hle, if_true, hnone]

/-- A handle that a record holds. -/
theorem findLink_of_matches {handle : Nat} {i : Fin 8} {r : LinkRecord} (h : handle ≤ 0xEFF)
    (hm : s.Matches handle i r) :
    findLink s handle = { st := s, body := [BitVec.ofNat 8 i.val, BitVec.ofNat 8 r.state.code] } := by
  have hsome : s.recordOf handle = some (i, r) := (recordOf_eq_some s handle i r).mpr hm
  have hle : handle ≤ Config.handleMax := h
  simp only [findLink, hle, if_true, hsome]
  rfl

end Sys2Proof.Machine
end

section
/-! SUPPORT. The READ LINK response body as the table of section 11.2, and what it tells of a record. -/

namespace Sys2Proof.Machine

open Sys2Proof

variable {r : LinkRecord} {i : Fin 8}

/-- The READ LINK response body of section 11.2, one field behind the other: the width of each and its value. -/
def LinkRecord.fields (r : LinkRecord) (i : Fin 8) : List (Nat × Nat) :=
  [(1, i.val), (1, r.state.code), (2, r.config.handle.toNat), (1, r.config.seat.val), (1, r.config.side.code),
    (1, r.config.blockLength), (2, r.config.startLevel), (2, r.config.lowMark), (2, r.config.supervision),
    (1, r.config.loopShift), (1, r.config.starveLimit), (2, r.config.talkOn), (2, r.config.talkOff),
    (1, r.config.hang), (1, r.marks), (1, (r.expected.getD 0).toNat), (1, (r.lastBlock.getD []).length),
    (2, (BitVec.ofInt 16 r.drift).toNat), (3, r.phase), (2, r.windowSum), (1, r.windowCount), (1, r.starve),
    (2, r.remaining), (2, r.lastLevel), (1, r.talkRun), (1, r.hangCount), (4, r.downPosition),
    (2, r.heldSample.toNat), (1, r.downSeq.toNat), (2, r.counters.accepted), (2, r.counters.concealed),
    (2, r.counters.stale), (2, r.counters.overflow), (2, r.counters.underruns), (2, r.counters.reprimes),
    (2, r.counters.losses), (2, r.counters.driftLimits), (2, r.counters.downDropped), (2, r.jitter.length),
    (2, r.downlink.length)]

theorem leBytes_one_toNat (b : Byte) : leBytes 1 b.toNat = [b] := by simp [leBytes]

/-- The body is its table laid out. -/
theorem body_eq_layOut (r : LinkRecord) (i : Fin 8) : r.body i = layOut (r.fields i) := by
  have hlast : (r.lastBlock.map List.length).getD 0 = (r.lastBlock.getD []).length := by cases r.lastBlock <;> rfl
  unfold LinkRecord.body
  simp only [hlast, layOut, LinkRecord.fields, LinkCounters.bytes, byte1, byte2, leBytes_one_toNat, List.flatMap_cons,
    List.flatMap_nil, List.append_nil, List.append_assoc]

theorem body_length (r : LinkRecord) (i : Fin 8) : (r.body i).length = 67 := by
  rw [body_eq_layOut]
  simp [layOut, LinkRecord.fields]

/-- Four flags weighted 1, 2, 4 and 8 are the bits 0 to 3 of their sum. -/
theorem testBit_of_four_flags : ∀ a b c d : Bool,
    let m := flagCode a + 2 * flagCode b + 4 * flagCode c + 8 * flagCode d
    m.testBit 0 = a ∧ m.testBit 1 = b ∧ m.testBit 2 = c ∧ m.testBit 3 = d ∧ m < 16 := by
  decide

/-- The marks of a record, bit by bit. -/
theorem marks_testBit (r : LinkRecord) :
    r.marks.testBit 0 = r.expected.isSome ∧ r.marks.testBit 1 = r.lastBlock.isSome ∧ r.marks.testBit 2 = r.belowLow ∧
      r.marks.testBit 3 = (r.activity == .talking) ∧ r.marks < 16 :=
  testBit_of_four_flags _ _ _ _

theorem linkState_code_lt (x : LinkState) : x.code < 4 := by cases x <;> decide

theorem side_code_lt (x : Side) : x.code < 2 := by cases x <;> decide

theorem blockLength_le_of_valid {c : LinkConfig} (h : c.Valid) : c.blockLength ≤ 240 := by
  have hb := h.block
  simp only [List.mem_cons, List.not_mem_nil, or_false] at hb
  omega

theorem lastBlock_length_le_of_inRange (h : r.InRange) : (r.lastBlock.getD []).length ≤ 240 := by
  cases hb : r.lastBlock with
  | none => simp
  | some b => exact (h.lastBlock b hb).trans_le (blockLength_le_of_valid h.config)

/-- Every field of a record in its ranges fits its width in the body. -/
theorem fields_fit (i : Fin 8) (h : r.InRange) : FieldsFit (r.fields i) := by
  obtain ⟨-, -, -, -, hmarks⟩ := marks_testBit r
  have hstate := linkState_code_lt r.state
  have hside := side_code_lt r.config.side
  have hblock := blockLength_le_of_valid h.config
  have hlast := lastBlock_length_le_of_inRange h
  obtain ⟨⟨-, -, -, hstart, hlow, ⟨-, hsup⟩, hshift, ⟨-, hlimit⟩, hon, hoff, hhang⟩, -, hphase, hcount, hsum, hstarve, -,
    hrem, hlevel, hrun, hhangCount, -, hpos, ⟨h1, h2, h3, h4, h5, h6, h7, h8, h9⟩, hjitter, hdown⟩ := h
  simp only [FieldsFit, LinkRecord.fields, List.forall_mem_cons, List.not_mem_nil, false_implies, implies_true, and_true]
  and_intros <;> omega

/-- A drift word in its range is read back from its two's complement. -/
theorem toInt_drift_of_inRange (h : r.InRange) : (BitVec.ofInt 16 r.drift).toInt = r.drift := by
  obtain ⟨hlo, hhi⟩ := h.drift
  exact BitVec.toInt_ofInt_eq_self (by decide) (by omega) (by omega)

end Sys2Proof.Machine
end

section
/-! PROOFS. READ LINK and FIND LINK (R12, R13). -/

namespace Sys2Proof.Machine

open Sys2Proof

/-- Settles O18: the body is the table of section 11.2 laid out, and every field in its range fits its width. -/
theorem readLinkTellsEveryField : Obligations.ReadLinkTellsEveryField := by
  refine ⟨⟨rfl, rfl⟩, ⟨rfl, rfl, rfl, rfl⟩, ⟨rfl, rfl⟩, fun s tag index hheld => ?_⟩
  rw [exec_readLink_of_holds hheld]
  refine ⟨fun habove => ?_, fun i hi => ?_⟩
  · rw [readLink_of_error (recordAt_of_above habove), answer_refuse]
  rw [← hi]
  refine ⟨fun hfree => ?_, fun r hr => ⟨r.body i, ?_, body_length r i, fun hrange => ?_⟩⟩
  · rw [readLink_of_error (recordAt_of_free hfree), answer_refuse]
  · rw [readLink_of_record (recordAt_of_record hr), answer_of_no_causes _ _ _ rfl]
  · have hfit := fields_fit i hrange
    have byte {k v : Nat} (h : fieldAt (r.fields i) k = some (1, v)) : byteAt (layOut (r.fields i)) k = v :=
      byteAt_of_fit hfit h
    have word {k v : Nat} (h : fieldAt (r.fields i) k = some (2, v)) : wordAt (layOut (r.fields i)) k = v :=
      wordAt_of_fit hfit h
    obtain ⟨hexpected, hlast, hlow, htalking, hmarks⟩ := marks_testBit r
    rw [body_eq_layOut, byte (k := 20) (v := r.marks) rfl, word (k := 23) (v := (BitVec.ofInt 16 r.drift).toNat) rfl,
      word (k := 42) (v := r.heldSample.toNat) rfl]
    simp only [BitVec.ofNat_toNat, BitVec.setWidth_eq]
    exact ⟨byte rfl, byte rfl, word rfl, byte rfl, byte rfl, byte rfl, word rfl, word rfl, word rfl, byte rfl, byte rfl,
      word rfl, word rfl, byte rfl, hexpected, hlast, hlow, htalking, hmarks, byte rfl, byte rfl,
      toInt_drift_of_inRange hrange, wordAt_byteAt_of_fit hfit rfl, word rfl, byte rfl, byte rfl, word rfl, word rfl,
      byte rfl, byte rfl, wordAt_wordAt_of_fit hfit rfl, trivial, byte rfl, word rfl, word rfl, word rfl, word rfl, word rfl,
      word rfl, word rfl, word rfl, word rfl, word rfl, word rfl⟩

/-- Settles O19: the record that a handle designates is the one that matches it (R9). -/
theorem findLinkAnswersIndexAndState : Obligations.FindLinkAnswersIndexAndState := by
  refine ⟨⟨rfl, rfl, rfl, rfl⟩, fun s tag lo hi hheld => ?_⟩
  rw [exec_findLink_of_holds hheld]
  refine ⟨fun habove => ?_, fun hle hnone => ?_, fun i r hle hmatch => ?_⟩
  · rw [findLink_of_above habove, answer_refuse]
  · rw [findLink_of_noMatch hle hnone, answer_refuse]
  · rw [findLink_of_matches hle hmatch, answer_of_no_causes _ _ _ rfl]

end Sys2Proof.Machine
end

section
/-! SUPPORT. An Audio Up frame as the receive check reads it: its bytes and their count (section 11.1, R27). -/

namespace Sys2Proof.Machine

open Sys2Proof

/-- The two bytes of a field, read back. -/
theorem word16_ofNat (v : Nat) (h : v < 65536) :
    word16 (BitVec.ofNat 8 v) (BitVec.ofNat 8 (v / 256)) = v := by
  simp only [word16, BitVec.toNat_ofNat]
  omega

theorem sampleBytes_cons (x : Sample) (xs : List Sample) :
    sampleBytes (x :: xs) = BitVec.ofNat 8 x.toNat :: BitVec.ofNat 8 (x.toNat / 256) :: sampleBytes xs := rfl

@[simp] theorem length_sampleBytes (xs : List Sample) : (sampleBytes xs).length = 2 * xs.length := by
  induction xs with
  | nil => rfl
  | cons x xs ih =>
    simp only [sampleBytes_cons, List.length_cons, ih]
    omega

/-- The bytes of samples are read back as the samples. -/
@[simp] theorem bytesSamples_sampleBytes (xs : List Sample) : bytesSamples (sampleBytes xs) = xs := by
  induction xs with
  | nil => rfl
  | cons x xs ih =>
    rw [sampleBytes_cons, bytesSamples, word16_ofNat _ x.isLt, ih, BitVec.ofNat_toNat, BitVec.setWidth_eq]

/-- The handle field of an Audio Up frame: the handle, and 4096 more for MUTE. -/
def handleField (handle : Nat) (mute : Bool) : Nat := handle + if mute then 4096 else 0

/-- The samples that an Audio Up frame carries: none with MUTE set. -/
def frameSamples (mute : Bool) (samples : List Sample) : List Sample := if mute then [] else samples

/-- An Audio Up frame byte by byte: its five fixed bytes, and the samples it carries behind them. -/
theorem audioUpBytes_eq (handle : Nat) (mute : Bool) (seq : Byte) (count : Nat) (samples : List Sample) :
    audioUpBytes handle mute seq count samples =
      0x01 :: BitVec.ofNat 8 (handleField handle mute) :: BitVec.ofNat 8 (handleField handle mute / 256) :: seq ::
        BitVec.ofNat 8 count :: sampleBytes (frameSamples mute samples) := by
  cases mute <;> rfl

/-- The byte count that a frame's MUTE flag and sample count declare. -/
theorem length_audioUpBytes (handle : Nat) (mute : Bool) (seq : Byte) (count : Nat) (samples : List Sample) :
    (audioUpBytes handle mute seq count samples).length = if mute then 5 else 5 + 2 * samples.length := by
  rw [audioUpBytes_eq]
  cases mute
  · simp only [frameSamples, List.length_cons, length_sampleBytes, if_false, Bool.false_eq_true]
    omega
  · rfl

section

variable {handle : Nat}

theorem frameHandle_handleField (h : handle < 4096) (mute : Bool) :
    frameHandle (BitVec.ofNat 8 (handleField handle mute)) (BitVec.ofNat 8 (handleField handle mute / 256)) =
      handle := by
  have hfield : handleField handle mute < 65536 ∧ handleField handle mute % 4096 = handle := by
    cases mute <;> simp only [handleField, if_true, if_false, Bool.false_eq_true] <;> omega
  rw [frameHandle, word16_ofNat _ hfield.1, hfield.2]

theorem frameMute_handleField (h : handle < 4096) (mute : Bool) :
    frameMute (BitVec.ofNat 8 (handleField handle mute / 256)) = mute := by
  have hbit : frameMute (BitVec.ofNat 8 (handleField handle mute / 256)) =
      decide (handleField handle mute / 256 / 2 ^ 4 % 2 = 1) := by
    rw [frameMute, BitVec.getLsbD_ofNat, Nat.testBit_eq_decide_div_mod_eq]
    rfl
  rw [hbit]
  cases mute <;>
    simp only [handleField, if_true, if_false, Bool.false_eq_true, decide_eq_true_eq, decide_eq_false_iff_not] <;> omega

/-- An Audio Up frame passes the format check, and is read back as what it carries. -/
theorem parseFrame_audioUpBytes (h : handle < 4096) (mute : Bool) (seq : Byte) {count : Nat} {samples : List Sample}
    (hlen : samples.length = count) (hcount : count ≤ 255) :
    parseFrame (audioUpBytes handle mute seq count samples) (audioUpBytes handle mute seq count samples).length =
      some (.audioUp handle mute seq count (frameSamples mute samples)) := by
  have hbyte : (BitVec.ofNat 8 count).toNat = count := by
    rw [BitVec.toNat_ofNat]
    omega
  rw [length_audioUpBytes, audioUpBytes_eq]
  simp only [parseFrame, frameMute_handleField h, frameHandle_handleField h, hbyte, hlen,
    bytesSamples_sampleBytes, if_true]

end

end Sys2Proof.Machine
end

section
/-! SUPPORT. A frame received whole, the record it goes to, and the step that a stale frame is (R25, R26, R32, R37). -/

namespace Sys2Proof.Machine

open Sys2Proof

variable {s : State} {i : Fin 8} {r : LinkRecord} {mute : Bool} {seq : Byte}

/-- Bytes clocked in from a rise of PVALID with the part READY. -/
theorem clockIn_of_waiting (bytes : List Byte) (hready : s.phase = .ready) (hwait : s.reception = .waiting) :
    s.clockIn bytes = { s with reception := .receiving (bytes.take 515) bytes.length } := by
  simp [State.clockIn, hwait, State.isReady, hready]

/-- The fall of PVALID behind at least one byte of a frame: the frame arrives. -/
theorem pvalidFalls_of_receiving {buffer : List Byte} {count : Nat} (hready : s.phase = .ready)
    (hreceiving : s.reception = .receiving buffer count) (hcount : count ≠ 0) :
    s.pvalidFalls = (State.frameArrives { s with reception := .waiting } buffer count).finish := by
  unfold State.pvalidFalls
  rw [hreceiving]
  exact (whenReady_of_ready { s with reception := .waiting } _ hready).trans (if_neg hcount)

/-- A frame of 1 to 515 bytes received whole arrives as its bytes. -/
theorem exec_audioUp_whole {bytes : List Byte} (hready : s.phase = .ready) (hwait : s.reception = .waiting)
    (hne : bytes.length ≠ 0) (hle : bytes.length ≤ 515) :
    exec (.audioUp bytes true) s = .next (s.frameArrives bytes bytes.length).finish := by
  have hback : ({ s with reception := .waiting } : State) = s := by rw [← hwait]
  calc exec (.audioUp bytes true) s
      = .next (s.clockIn bytes).pvalidFalls := rfl
    _ = .next (State.pvalidFalls { s with reception := .receiving bytes bytes.length }) := by
        rw [clockIn_of_waiting bytes hready hwait, List.take_of_length_le hle]
    _ = .next (State.frameArrives { s with reception := .waiting } bytes bytes.length).finish :=
        congrArg Host.Outcome.next (pvalidFalls_of_receiving hready rfl hne)
    _ = .next (s.frameArrives bytes bytes.length).finish := by rw [hback]

/-- An Audio Up frame that passes the four checks is judged against the record it matches. -/
theorem frameArrives_audioUpBytes {samples : List Sample} (hengine : s.engine ≠ .stopped)
    (hmatch : s.Matches r.config.handle.toNat i r) (hlen : samples.length = r.config.blockLength)
    (hblock : r.config.blockLength ≤ 255) :
    let frame := audioUpBytes r.config.handle.toNat mute seq r.config.blockLength samples
    s.frameArrives frame frame.length =
      (Event.start s).stepLink i (r.takeFrame i mute seq (frameSamples mute samples)) := by
  have hrecord : s.recordOf r.config.handle.toNat = some (i, r) := (recordOf_eq_some _ _ _ _).mpr hmatch
  simp only [State.frameArrives, parseFrame_audioUpBytes r.config.handle.isLt mute seq hlen hblock, hrecord,
    State.matchedAudio, hengine, if_false, ne_eq, not_true_eq_false]

/-- An Audio Up frame that passes the four checks, received whole: its step of the record it matches. -/
theorem exec_audioUpBytes {samples : List Sample} (hready : s.phase = .ready) (hwait : s.reception = .waiting)
    (hengine : s.engine ≠ .stopped) (hmatch : s.Matches r.config.handle.toNat i r)
    (hlen : samples.length = r.config.blockLength) (hblock : r.config.blockLength ≤ 255) :
    exec (.audioUp (audioUpBytes r.config.handle.toNat mute seq r.config.blockLength samples) true) s =
      .next ((Event.start s).stepLink i (r.takeFrame i mute seq (frameSamples mute samples))).finish := by
  have hsize : 5 ≤ (audioUpBytes r.config.handle.toNat mute seq r.config.blockLength samples).length ∧
      (audioUpBytes r.config.handle.toNat mute seq r.config.blockLength samples).length ≤ 515 := by
    rw [length_audioUpBytes]
    split <;> omega
  rw [exec_audioUp_whole hready hwait (by omega) (by omega), frameArrives_audioUpBytes hengine hmatch hlen hblock]

/-- A frame 128 or more ahead of the one that a PRIMING or LIVE record expects is stale. -/
theorem takeFrame_of_stale {e : Byte} {samples : List Sample} (hstate : r.state = .priming ∨ r.state = .live)
    (hexpected : r.expected = some e) (hdelta : 128 ≤ (seq - e).toNat) :
    r.takeFrame i mute seq samples = r.staleFrame := by
  have hordered : ¬(seq - e).toNat ≤ 15 := by omega
  have hresync : ¬(seq - e).toNat ≤ 127 := by omega
  rcases hstate with hstate | hstate <;>
    simp only [LinkRecord.takeFrame, hstate, hexpected, Option.getD_some, hordered, hresync, if_false]

/-- An event whose only step changes no state, loses no audio and issues no cause leaves the record alone changed. -/
theorem finish_stepLink_of_quiet {p : LinkStep} (hchanged : p.changed = false) (hlossy : p.lossy = false)
    (hcauses : p.causes = []) :
    ((Event.start s).stepLink i p).finish = { s with slots := s.slots.set i (some p.record) } := by
  have hnone : ((Event.start s).stepLink i p).causes = [] := hcauses
  rw [Event.finish, hnone, handleGroup_nil, stepLink_st]
  simp only [hchanged, hlossy, Bool.false_or, Bank.set_get]
  rfl

end Sys2Proof.Machine
end

section
/-! PROOFS. Stale frames (R37). -/

namespace Sys2Proof.Machine

open Sys2Proof

/-- Settles O24: a stale frame passes the four checks, and its step of the record is a quiet one. -/
theorem staleFramesAreOnlyCounted : Obligations.StaleFramesAreOnlyCounted := by
  intro s i r e mute seq samples hready hwait hengine hmatch hlen hblock hstate hexpected hdelta
  rw [exec_audioUpBytes hready hwait hengine hmatch hlen hblock, takeFrame_of_stale hstate hexpected hdelta,
    finish_stepLink_of_quiet rfl rfl rfl]
  rfl

end Sys2Proof.Machine
end

section
/-! SUPPORT. The IDENTIFY response body as its row of the table of section 11.2, and IDENTIFY taken (R182). -/

namespace Sys2Proof.Machine

open Sys2Proof

/-- The IDENTIFY response body of section 11.2, one field behind the other: family code, part code, revision, links and
seats, each the width and the value. -/
def identityFields : List (Nat × Nat) := [(1, 0x3D), (2, 428), (1, 1), (1, 8), (1, 4)]

theorem identityFields_fit : FieldsFit identityFields := by
  unfold FieldsFit
  decide

theorem length_layOut_identityFields : (layOut identityFields).length = 6 := rfl

/-- IDENTIFY changes nothing, issues no cause, and its body is the table laid out. -/
theorem identify_eq (s : State) : identify s () = { st := s, body := layOut identityFields } := rfl

/-- IDENTIFY taken: the response placed, in everything else unchanged. -/
theorem exec_identify_of_holds {s : State} {tag : Byte} (h : s.Holds 0x1F tag []) :
    exec .identify s = .next (s.responded 0x1F tag .ok (layOut identityFields)) := by
  have htaken : s.takeRequest 0x1F bodyNone identify = (identify s ()).answer 0x1F tag :=
    takeRequest_of_holds bodyNone identify h (by simp) rfl
  calc exec .identify s
      = .next ((identify s ()).answer 0x1F tag) := congrArg Host.Outcome.next htaken
    _ = .next (s.responded 0x1F tag .ok (layOut identityFields)) := by
        rw [identify_eq, answer_of_no_causes _ _ _ rfl]

end Sys2Proof.Machine
end

section
/-! PROOFS. IDENTIFY (R182). -/

namespace Sys2Proof.Machine

open Sys2Proof

/-- Settles O14: the body is the table of section 11.2 laid out, every field fits its width, and no premise names the mix
engine's state. -/
theorem identifyAnswersTheFiveFields : Obligations.IdentifyAnswersTheFiveFields := by
  intro s tag hheld
  have hfit := identityFields_fit
  exact ⟨layOut identityFields, exec_identify_of_holds hheld, length_layOut_identityFields, byteAt_of_fit hfit rfl,
    wordAt_of_fit hfit rfl, byteAt_of_fit hfit rfl, byteAt_of_fit hfit rfl, byteAt_of_fit hfit rfl⟩

end Sys2Proof.Machine
end

section
/-! PROOFS. The links in order are kept only with the receive buffer in order: a buffer that holds fewer bytes than are counted
gives an accepted frame with fewer samples than a block (R6, R25, R31). -/

namespace Sys2Proof.Machine

open Sys2Proof

/-- A valid configuration of handle 0, with blocks of 40 samples. -/
def plainConfig : LinkConfig where
  handle := 0
  seat := 0
  side := .left
  blockLength := 40
  startLevel := 146
  lowMark := 66
  supervision := 200
  loopShift := 3
  starveLimit := 4
  talkOn := 1024
  talkOff := 512
  hang := 25

theorem plainConfig_valid : plainConfig.Valid where
  handle := by decide
  block := by decide
  startLow := by decide
  startHigh := by decide
  lowMark := by decide
  supervision := by decide
  loopShift := by decide
  starveLimit := by decide
  talkOn := by decide
  talkOff := by decide
  hang := by decide

/-- Five bytes of an Audio Up frame of 40 samples for handle 0: its head, with no sample behind it. -/
def bareHead : List Byte := [0x01, 0, 0, 0, 40]

/-- A part in CALL with one new record, whose receive buffer holds the bare head of a frame although 85 bytes are counted; the
fall of PVALID comes next. -/
def shortBuffer : State :=
  { State.reset with
    phase := .ready
    engine := .call
    slots := (Bank.fill 8 none).set 0 (some (LinkRecord.admitted plainConfig))
    reception := .receiving bareHead 85
    pending := [.audioUp [] true] }

/-- A record newly admitted with a valid configuration has every field in its range. -/
theorem admitted_inRange {c : LinkConfig} (h : c.Valid) : (LinkRecord.admitted c).InRange := by
  constructor <;> simp [LinkRecord.admitted, h]
  exact ⟨by decide, by decide, by decide, by decide, by decide, by decide, by decide, by decide, by decide⟩

/-- The fields of a record newly admitted agree with its state. -/
theorem admitted_inState (c : LinkConfig) : (LinkRecord.admitted c).InState := by
  constructor <;> simp [LinkRecord.admitted]

theorem shortBuffer_linksInOrder : shortBuffer.LinksInOrder := by
  have hslot : ∀ i r, shortBuffer.slots.get i = some r → r = LinkRecord.admitted plainConfig := by
    intro i r h
    simp only [shortBuffer, Bank.get_set, Bank.get_fill] at h
    split at h
    · exact (Option.some.inj h).symm
    · cases h
  refine ⟨fun i r h => ?_, fun i r h => ?_, fun n h => by cases h⟩
  · rw [hslot i r h]
    exact admitted_inRange plainConfig_valid
  · rw [hslot i r h]
    exact admitted_inState _

/-- The record after the short frame: PRIMING, with no sample in its last received block. -/
theorem takeFrame_short :
    ((LinkRecord.admitted plainConfig).takeFrame 0 false 0 []).record.lastBlock = some [] := rfl

/-- The fall of PVALID takes the bare head for the whole frame. -/
theorem step_shortBuffer : step shortBuffer = .next
    ((Event.start { shortBuffer with pending := [], reception := .waiting }).stepLink 0
      ((LinkRecord.admitted plainConfig).takeFrame 0 false 0 [])).finish := rfl

/-- Refutes O56: the head of a frame alone is accepted as a frame of 40 samples, and leaves a last received block of none. -/
theorem not_everyStepKeepsTheLinksInOrder : ¬ Obligations.EveryStepKeepsTheLinksInOrder := by
  intro h
  have hkept := h _ _ shortBuffer_linksInOrder step_shortBuffer
  have hrecord : (Event.finish ((Event.start { shortBuffer with pending := [], reception := .waiting }).stepLink 0
      ((LinkRecord.admitted plainConfig).takeFrame 0 false 0 []))).slots.get 0 =
      some ((LinkRecord.admitted plainConfig).takeFrame 0 false 0 []).record := by
    rw [Event.finish, handleGroup_slots, stepLink_st]
    simp
  have hlength := (hkept.range 0 _ hrecord).lastBlock [] takeFrame_short
  exact absurd hlength (by decide)

end Sys2Proof.Machine
end

section
/-! SUPPORT. What it takes for a predicate of the part to be kept by every command: that each of the part's operations keeps it.
The composition of the commands from these operations is worked through once, here. -/

namespace Sys2Proof.Machine

open Sys2Proof

/-! ## The operations between which the commands branch -/

/-- A frame sync in CALL up to its boundary: the transfer and the lock detection (R137 to R141). -/
def Event.transferred (e : Event) (x : Sample) (ulEn : Bool) : Event :=
  (e.onState fun s => { s with pcm := s.pcm.activeFrame x ulEn }).detectLock

/-- A frame sync while the port is not active (R137, R141). -/
def Event.idleFrame (e : Event) : Event := (e.onState fun s => { s with pcm := { s.pcm with dout := 0 } }).detectLock

/-- The part at a boundary of CALL: b and T set to 0 (R151). -/
def State.atCallBoundary (s : State) : State := { s with ticks := 0, pcm := { s.pcm with b := 0 } }

/-- The stages of a completion before the arbiter's choice (R130). -/
def Event.completedStages (e : Event) (n : Snapshot) : Event :=
  (((e.onState fun s => { s.disposeUplink (n.row .uplink) with pass := none }).judgeClips n).stepLinks
    fun i r => r.complete i n).onState State.rampAndAdvance

/-- The end of a transmission before the arbiter's choice (R44). -/
def State.downSent (s : State) : State :=
  { s with sending := none, radio := { s.radio with framesSent := satAdd s.radio.framesSent 1 } }

theorem complete_eq (e : Event) (n : Snapshot) : e.complete n = (e.completedStages n).onState State.arbitrate := rfl

/-- The counters that a received frame can move on (R28, R29, R41). -/
def receiveCounts : List (RadioCounters → RadioCounters) :=
  [RadioCounters.formatError, fun c => { c with unmatched := satAdd c.unmatched 1 },
    fun c => { c with idleDiscards := satAdd c.idleDiscards 1 }, fun c => { c with statusOnly := satAdd c.statusOnly 1 }]

/-- Every operation of the part keeps `P`, where the commands apply it. -/
structure Kept (P : State → Prop) : Prop where
  resetTo (s : State) (phase : Phase) : P s → P (s.resetTo phase)
  startUp (s : State) : s.phase = .inReset → P s → P { s with phase := .startUp }
  ready (s : State) : s.phase = .startUp → P s → P { s with phase := .ready }
  beginTransaction (s : State) : P s → P s.beginTransaction
  shiftByte (s : State) (b : Byte) : P s → P (s.shiftByte b)
  endTransaction (s : State) : P s → P s.endTransaction
  clockIn (s : State) (bytes : List Byte) : P s → P (s.clockIn bytes)
  waiting (s : State) : P s → P { s with reception := .waiting }
  placeResponse (s : State) (h : HeldRequest) (r : Response) : s.phase = .ready → s.iface = .executing h →
    r.bytes.length ≤ 128 → P s → P (s.placeResponse r)
  mask (s : State) (mask : NoticeFlags) : P s → P { s with mask }
  clearKinds (s : State) (kinds : List NoticeKind) : P s → P (s.clearKinds kinds)
  callStart (s : State) (engine : EngineState) : s.engine = .stopped →
    engine = (if s.pcm.lock = .locked then .call else .holdover) → P s →
    P { s with
      engine, ticks := 0, holdover := 0, pcm := { s.pcm.endCall with b := 0 }, notices := s.notices.raise .clock }
  endCall (e : Event) : P e.st → P e.endCall.st
  clearCall (s : State) : P s → P s.clearCall
  clearClips (s : State) (os : List Output) : P s → P (s.mapClips fun o c => { c with flag := c.flag && !os.contains o })
  setCue (s : State) (j : Fin 4) (b : CueBody) (c : CueSet) : b.set? j = some c → c.action.namesFixed = false → P s →
    P (s.onCue j fun _ => c)
  enableCue (s : State) (j : Fin 4) (enabled : Bool) : P s → P (s.onCue j fun c => { c with enabled })
  fireSet (s : State) (j : Fin 4) : P s → P (s.fireSet j)
  setGain (s : State) (g : GainName) (b : SetGainBody) : b.inRange = true → P s →
    P { s with gains := s.gains.writeTarget g b.target b.step }
  fade (s : State) (g : GainName) : P s → P { s with gains := s.gains.fade g }
  cut (s : State) (g : GainName) : P s → P { s with gains := s.gains.cut g }
  stepLevel (s : State) (o : Output) (d : Direction) (amount : Nat) : P s →
    P { s with gains := s.gains.stepLevel o d amount }
  setCeiling (s : State) (c : Nat) : c ≤ 8192 → P s → P { s with gains := s.gains.setCeiling c }
  admits (s : State) (i : Fin 8) (c : LinkConfig) : s.freeSlot = some i → s.byHandle c.handle.toNat = none →
    holder s.slots c.seat c.side = none → P s → P (s.admitTo i c)
  amend (s : State) (i : Fin 8) (r : LinkRecord) (entries : List (Nat × Nat)) (c : LinkConfig) :
    s.slots.get i = some r → entriesOk 2 entries = true → (r.config.raw.writeAll entries).check = some c →
    ¬(r.config.moves c = true ∧ (r.state = .priming ∨ r.state = .live)) → s.seatClash i r.config c = false → P s →
    P { s with slots := s.slots.set i (some (r.amended c)) }
  retire (s : State) (i : Fin 8) : P s → P (s.retire i)
  setSeat (s : State) (i : Fin 4) (m : SeatMode) (b : SeatBody) : fadeLengths.contains b.fadeLength = true →
    b.returnHold ≤ 255 → 1 ≤ b.stepSize → b.stepSize ≤ 4096 → P s → P (s.onSeat i fun r => r.configured m b)
  loadTimer (s : State) (i : Fin 4) (load : Nat) (mode : TimerMode) (source : TimerSource) : load ≠ 0 → load ≤ 65535 →
    ¬(source = .cascade ∧ i = 0) → P s →
    P { s with timers := s.timers.set i { s.timers.get i with load, mode, source } }
  startTimer (s : State) (i : Fin 4) : P s → P { s with timers := startedTimers s.timers i }
  stopTimer (s : State) (i : Fin 4) : P s → P { s with timers := stoppedTimers s.timers i }
  countRadio (s : State) (f : RadioCounters → RadioCounters) : f ∈ receiveCounts → P s → P (s.countRadio f)
  takeFrame (s : State) (i : Fin 8) (r : LinkRecord) (mute : Bool) (seq : Byte) (samples : List Sample) :
    s.engine ≠ .stopped → s.slots.get i = some r → P s →
    P ((Event.start s).stepLink i (r.takeFrame i mute seq samples)).st
  lose (s : State) (i : Fin 8) (r : LinkRecord) : s.slots.get i = some r → r.state = .priming ∨ r.state = .live → P s →
    P ((Event.start s).stepLink i (r.lose i)).st
  downSent (s : State) : P s → P s.downSent
  serve (s : State) (i : Fin 8) (r : LinkRecord) : s.slots.get i = some r → r.state = .live → P s → P (s.serve i r)
  supervise (e : Event) : P e.st → P (e.stepLinks fun i r => r.supervise i).st
  tickTimers (e : Event) : P e.st → P e.tickTimers.st
  tickCounted (s : State) : P s → P { s with ticks := nextTicks s.ticks }
  testLock (e : Event) : P e.st → P e.testLock.st
  holdoverCounted (s : State) : s.engine = .holdover → s.endsCall = false → P s →
    P { s with holdover := s.holdover + 1, ticks := nextTicks s.ticks }
  holdoverBoundary (s : State) : P s → P { s with ticks := 0 }
  transferred (e : Event) (x : Sample) (ulEn : Bool) : e.st.engine = .call → P e.st →
    P (if 64 ≤ (e.transferred x ulEn).st.pcm.b then (e.transferred x ulEn).st.atCallBoundary
      else (e.transferred x ulEn).st)
  idleFrame (e : Event) : e.st.engine ≠ .call → P e.st → P e.idleFrame.st
  completedStages (e : Event) (n : Snapshot) : e.st.pass = some n → P e.st → P (e.completedStages n).st
  startPass (e : Event) : e.st.engine ≠ .stopped → P e.st → P e.startPass.st

variable {P : State → Prop}

/-! ## Events -/

theorem handleGroup_kept (K : Kept P) (s : State) (group : List Cause) (h : P s) : P (s.handleGroup group) :=
  handleGroup_keeps K.fireSet s group h

theorem finish_kept (K : Kept P) (e : Event) (h : P e.st) : P e.finish := handleGroup_kept K _ _ h

/-- The arbiter serves a LIVE link or does nothing. -/
theorem arbitrate_cases (s : State) :
    s.arbitrate = s ∨ ∃ i r, s.slots.get i = some r ∧ r.state = .live ∧ s.sending = none ∧ s.arbitrate = s.serve i r := by
  unfold State.arbitrate
  split
  · exact .inl rfl
  next hidle =>
    split
    · exact .inl rfl
    next i hfind =>
      have hready : slotReady (s.slots.get i) = true := by simpa using List.find?_some hfind
      split
      · exact .inl rfl
      next r hr =>
        have hlive : r.state = .live := by
          simp only [hr, slotReady, Option.any_some, Bool.and_eq_true, beq_iff_eq] at hready
          exact hready.1
        exact .inr ⟨i, r, hr, hlive, by simpa using hidle, rfl⟩

theorem arbitrate_kept (K : Kept P) (s : State) (h : P s) : P s.arbitrate := by
  rcases arbitrate_cases s with heq | ⟨i, r, hr, hlive, -, heq⟩ <;> rw [heq]
  · exact h
  · exact K.serve s i r hr hlive h

theorem completePass_kept (K : Kept P) (s : State) (h : P s) : P s.completePass := by
  unfold State.completePass
  split
  · exact h
  next n hn => exact finish_kept K _ (arbitrate_kept K _ (K.completedStages (Event.start s) n hn h))

@[simp] theorem serve_engine (s : State) (i : Fin 8) (r : LinkRecord) : (s.serve i r).engine = s.engine := rfl

@[simp] theorem arbitrate_engine (s : State) : s.arbitrate.engine = s.engine := by
  rcases arbitrate_cases s with heq | ⟨i, r, -, -, -, heq⟩ <;> rw [heq]
  rfl

@[simp] theorem stepLinks_engine (e : Event) (f : Fin 8 → LinkRecord → LinkStep) :
    (e.stepLinks f).st.engine = e.st.engine := rfl

@[simp] theorem disposeUplink_engine (s : State) (row : List Sample) : (s.disposeUplink row).engine = s.engine := by
  unfold State.disposeUplink
  split <;> rfl

@[simp] theorem judgeClips_engine (e : Event) (n : Snapshot) : (e.judgeClips n).st.engine = e.st.engine := rfl

@[simp] theorem completedStages_engine (e : Event) (n : Snapshot) : (e.completedStages n).st.engine = e.st.engine := by
  simp [Event.completedStages]

@[simp] theorem completePass_engine (s : State) : s.completePass.engine = s.engine := by
  unfold State.completePass
  split
  · rfl
  next n hn =>
    rw [Event.finish, handleGroup_engine, complete_eq, onState_st, arbitrate_engine, completedStages_engine]
    rfl

/-- A boundary reaches an engine that is not STOPPED: the pass in flight is completed, and a pass starts. -/
theorem boundary_kept (K : Kept P) (e : Event) (hengine : e.st.engine ≠ .stopped) (h : P e.st) : P e.boundary.st :=
  K.startPass _ (by rwa [onState_st, completePass_engine]) (completePass_kept K e.st h)

@[simp] theorem testLock_engine_of_not_call (e : Event) (h : e.st.engine ≠ .call) :
    e.testLock.st.engine = e.st.engine := by
  unfold Event.testLock Event.loseLock
  split
  · rfl
  · split
    · simp [h]
    · rfl

theorem holdoverTick_kept (K : Kept P) (e : Event) (hengine : e.st.engine = .holdover) (h : P e.st) :
    P e.holdoverTick.st := by
  unfold Event.holdoverTick
  split
  · exact K.endCall e h
  next hends =>
    have hcounted := K.holdoverCounted e.st hengine (by simpa using hends) h
    dsimp only
    split
    · exact boundary_kept K _ (by simp [hengine]) (K.holdoverBoundary _ hcounted)
    · exact hcounted

theorem tick_kept (K : Kept P) (e : Event) (h : P e.st) : P e.tick.st := by
  have htimed := K.tickTimers _ (K.supervise e h)
  unfold Event.tick Event.engineTick
  split
  · exact K.testLock _ htimed
  · exact K.testLock _ (K.tickCounted _ htimed)
  next hengine =>
    refine holdoverTick_kept K _ ?_ (K.testLock _ htimed)
    rw [testLock_engine_of_not_call _ (by simp [hengine]), hengine]

/-- Every tick keeps what every operation keeps. -/
theorem state_tick_kept (K : Kept P) (s : State) (h : P s) : P s.tick := by
  unfold State.tick
  split
  · exact h
  next hphase =>
    unfold State.endStartUp
    rw [if_pos hphase]
    exact K.ready s hphase h
  · exact finish_kept K _ (tick_kept K _ h)

@[simp] theorem detectLock_engine_of_call (e : Event) (h : e.st.engine = .call) : e.detectLock.st.engine = .call := by
  unfold Event.detectLock Event.gainLock
  split
  · simp [h]
  · split <;> simp [h]

/-- A frame sync in CALL, by whether it brings b to 64. -/
theorem frameSync_of_call (e : Event) (x : Sample) (ulEn : Bool) (h : e.st.engine = .call) :
    e.frameSync x ulEn =
      if 64 ≤ (e.transferred x ulEn).st.pcm.b then
        ((e.transferred x ulEn).onState State.atCallBoundary).boundary
      else e.transferred x ulEn := if_pos h

theorem frameSync_kept (K : Kept P) (e : Event) (x : Sample) (ulEn : Bool) (h : P e.st) : P (e.frameSync x ulEn).st := by
  by_cases hengine : e.st.engine = .call
  · have hkept := K.transferred e x ulEn hengine h
    rw [frameSync_of_call e x ulEn hengine]
    split
    next hb =>
      rw [if_pos hb] at hkept
      have hcall : (e.transferred x ulEn).st.engine = .call := detectLock_engine_of_call _ hengine
      exact boundary_kept K _ (by simp [State.atCallBoundary, hcall]) hkept
    next hb => rwa [if_neg hb] at hkept
  · have hidle : e.frameSync x ulEn = e.idleFrame := if_neg hengine
    rw [hidle]
    exact K.idleFrame e hengine h

theorem whenReady_kept {s : State} {f : State → State} (hf : s.phase = .ready → P s → P (f s)) (h : P s) :
    P (s.whenReady f) := by
  by_cases hready : s.phase = .ready
  · rw [whenReady_of_ready s f hready]
    exact hf hready h
  · rwa [whenReady_of_not_ready s f hready]

theorem state_frameSync_kept (K : Kept P) (s : State) (x : Sample) (ulEn : Bool) (h : P s) : P (s.frameSync x ulEn) :=
  whenReady_kept (fun _ h => finish_kept K _ (frameSync_kept K (Event.start s) x ulEn h)) h

/-! ## Frames and transactions -/

/-- All that the arrival of a frame can do: a counter moves on, or the record it matches takes one step. -/
theorem frameArrives_cases (s : State) (buffer : List Byte) (count : Nat) :
    (∃ f ∈ receiveCounts, s.frameArrives buffer count = Event.start (s.countRadio f)) ∨
    (∃ i r mute seq samples, s.engine ≠ .stopped ∧ s.slots.get i = some r ∧
      s.frameArrives buffer count = (Event.start s).stepLink i (r.takeFrame i mute seq samples)) ∨
    ∃ i r, s.slots.get i = some r ∧ (r.state = .priming ∨ r.state = .live) ∧
      s.frameArrives buffer count = (Event.start s).stepLink i (r.lose i) := by
  unfold State.frameArrives
  split
  · exact .inl ⟨_, by simp [receiveCounts], rfl⟩
  next handle mute seq declared samples _ =>
    split
    · exact .inl ⟨_, by simp [receiveCounts], rfl⟩
    next i r hr =>
      have hslot := ((recordOf_eq_some _ _ _ _).mp hr).1
      unfold State.matchedAudio
      split
      · exact .inl ⟨_, by simp [receiveCounts], rfl⟩
      next hengine =>
        split
        · exact .inl ⟨_, by simp [receiveCounts], rfl⟩
        · exact .inr (.inl ⟨i, r, mute, seq, samples, hengine, hslot, rfl⟩)
  next handle up _ =>
    split
    · exact .inl ⟨_, by simp [receiveCounts], rfl⟩
    next i r hr =>
      have hslot := ((recordOf_eq_some _ _ _ _).mp hr).1
      unfold State.matchedStatus
      split
      next hdown => exact .inr (.inr ⟨i, r, hslot, hdown.2, rfl⟩)
      · exact .inl ⟨_, by simp [receiveCounts], rfl⟩

theorem frameArrives_kept (K : Kept P) (s : State) (buffer : List Byte) (count : Nat) (h : P s) :
    P (s.frameArrives buffer count).st := by
  rcases frameArrives_cases s buffer count with
    ⟨f, hf, heq⟩ | ⟨i, r, mute, seq, samples, hengine, hr, heq⟩ | ⟨i, r, hr, hstate, heq⟩ <;> rw [heq]
  · exact K.countRadio s f hf h
  · exact K.takeFrame s i r mute seq samples hengine hr h
  · exact K.lose s i r hr hstate h

theorem pvalidFalls_kept (K : Kept P) (s : State) (h : P s) : P s.pvalidFalls := by
  have hfallen := K.waiting s h
  unfold State.pvalidFalls
  split
  · refine whenReady_kept (fun _ h => ?_) hfallen
    split
    · exact h
    · exact finish_kept K _ (frameArrives_kept K _ _ _ h)
  · exact hfallen

theorem receive_kept (K : Kept P) (s : State) (bytes : List Byte) (ends : Bool) (h : P s) : P (s.receive bytes ends) := by
  unfold State.receive
  split
  · exact pvalidFalls_kept K _ (K.clockIn s bytes h)
  · exact K.clockIn s bytes h

theorem shiftBytes_kept (K : Kept P) (s : State) (bytes : List Byte) (h : P s) : P (bytes.foldl State.shiftByte s) := by
  induction bytes generalizing s with
  | nil => exact h
  | cons b bytes ih => exact ih _ (K.shiftByte s b h)

theorem transact_kept (K : Kept P) (s : State) (shift : Shift) (h : P s) : P (s.transact shift) := by
  have hshifted := shiftBytes_kept K s shift.mosi h
  unfold State.transact
  dsimp only
  split
  · exact K.endTransaction _ hshifted
  · exact hshifted

theorem downComplete_kept (K : Kept P) (s : State) (h : P s) : P s.downComplete := by
  unfold State.downComplete
  split
  · exact h
  · exact arbitrate_kept K _ (K.downSent s h)

end Sys2Proof.Machine
end

section
/-! SUPPORT. What the owner of each request can do to the part and how long its answer can be, and so what every command keeps. -/

namespace Sys2Proof.Machine

open Sys2Proof

/-- The owner's answer to a request taken at `s` keeps `P`, and its body fits the response buffer (R176). -/
structure Reply.Taken (P : State → Prop) (s : State) (p : Reply) : Prop where
  keeps : P s → P p.st
  phase : p.st.phase = s.phase
  iface : p.st.iface = s.iface
  body : p.body.length ≤ 124

section

variable {P : State → Prop} {s : State}

@[simp] theorem length_byte1 (v : Nat) : (byte1 v).length = 1 := length_leBytes 1 v

@[simp] theorem length_byte2 (v : Nat) : (byte2 v).length = 2 := length_leBytes 2 v

/-- A refusal writes nothing and answers no byte. -/
theorem taken_refuse (status : Status) : (refuse s status).Taken P s := ⟨id, rfl, rfl, by simp [refuse]⟩

/-- A request that only reads. -/
theorem taken_read {status : Status} {body : List Byte} {causes : List Cause} (h : body.length ≤ 124) :
    Reply.Taken P s { st := s, status, body, causes } := ⟨id, rfl, rfl, h⟩

/-- A number below `n` is an index below `n`. -/
theorem index?_eq_some {n v : Nat} {i : Fin n} : index? n v = some i ↔ i.val = v := by
  unfold index?
  constructor
  · intro h
    split at h
    · cases h
      rfl
    · cases h
  · rintro rfl
    simp

theorem index?_eq_none {n v : Nat} : index? n v = none ↔ n ≤ v := by
  simp [index?]

/-! ## Notices, IDENTIFY and calls -/

theorem taken_readNotices : (readNotices s ()).Taken P s := taken_read (by simp [State.noticesBody])

theorem taken_setNoticeMask (K : Kept P) (codes : List Nat) : (setNoticeMask s codes).Taken P s := by
  unfold setNoticeMask
  split
  · exact taken_refuse _
  · exact ⟨K.mask s _, rfl, rfl, by simp⟩

theorem taken_clearNotices (K : Kept P) (codes : List Nat) : (clearNotices s codes).Taken P s := by
  unfold clearNotices
  split
  · exact taken_refuse _
  · exact ⟨K.clearKinds s _, rfl, rfl, by simp [State.clearedBody]⟩

theorem taken_identify : (identify s ()).Taken P s := taken_read (by simp)

theorem taken_callStart (K : Kept P) : (callStart s ()).Taken P s := by
  unfold callStart
  split
  next hstopped => exact ⟨K.callStart s _ hstopped rfl, rfl, rfl, by simp⟩
  · exact taken_refuse _

theorem taken_callEnd (K : Kept P) : (callEnd s ()).Taken P s := by
  unfold callEnd
  split
  · exact taken_refuse _
  · exact ⟨K.endCall (Event.start s), rfl, rfl, by simp⟩

theorem taken_callClear (K : Kept P) : (callClear s ()).Taken P s := ⟨K.clearCall s, rfl, rfl, by simp [callClear]⟩

theorem length_clipBody : s.clipBody.length = 15 := rfl

theorem taken_clearClip (K : Kept P) (codes : List Nat) : (clearClip s codes).Taken P s := by
  unfold clearClip
  split
  · exact taken_refuse _
  · exact ⟨K.clearClips s _, rfl, rfl, by simp [length_clipBody]⟩

theorem length_portBody : s.portBody.length = 18 := by simp [State.portBody]

theorem taken_readPortCounters : (readPortCounters s ()).Taken P s := taken_read (by simp [length_portBody])

/-! ## Cue sets -/

theorem taken_setCue (K : Kept P) (b : CueBody) : (setCue s b).Taken P s := by
  unfold setCue
  split
  · exact taken_refuse _
  next j _ =>
    split
    · exact taken_refuse _
    next c hc =>
      split
      · exact taken_refuse _
      next hfixed => exact ⟨K.setCue s j b c hc (by simpa using hfixed), rfl, rfl, by simp⟩

theorem taken_enableCue (K : Kept P) (v : Nat) : (enableCue s v).Taken P s := by
  unfold enableCue
  split
  · exact taken_refuse _
  · split
    · exact taken_refuse _
    · exact ⟨K.enableCue s _ true, rfl, rfl, by simp⟩

theorem taken_disableCue (K : Kept P) (v : Nat) : (disableCue s v).Taken P s := by
  unfold disableCue
  split
  · exact taken_refuse _
  · exact ⟨K.enableCue s _ false, rfl, rfl, by simp⟩

theorem taken_fireCue (K : Kept P) (v : Nat) : (fireCue s v).Taken P s := by
  unfold fireCue
  split
  · exact taken_refuse _
  next j _ =>
    split
    · have hbody : (fireBody (s.fireFaults j)).length = 2 := by cases s.fireFaults j <;> rfl
      exact ⟨fireWhole_keeps K.fireSet s j, fireWhole_phase s j, fireWhole_iface s j, by simp [hbody]⟩
    · exact taken_refuse _

theorem length_codes (g : GainName) : g.codes.length = 2 := by cases g <;> rfl

theorem length_operandBytes (a : Action) : a.operandBytes.length = 2 := by
  cases a <;> simp [Action.operandBytes, length_codes]

theorem length_chainMembers_le (chain : Bank 4 Bool) : (chainMembers chain).length ≤ 4 := by
  unfold chainMembers
  rw [List.length_map]
  exact (List.length_filter_le _ _).trans (by simp)

theorem length_flatMap_byte1 (xs : List Nat) : (xs.flatMap byte1).length = xs.length := by
  induction xs with
  | nil => rfl
  | cons x xs ih => simp [ih, Nat.add_comm]

theorem length_cueBody_le (j : Fin 4) : (s.cueBody j).length ≤ 124 := by
  have hmembers := length_chainMembers_le (s.cues.get j).chain
  unfold State.cueBody
  simp only [List.length_append, length_byte1, length_byte2, length_operandBytes, length_flatMap_byte1,
    List.length_replicate]
  cases s.cueFault <;> simp <;> omega

theorem taken_readCue (v : Nat) : (readCue s v).Taken P s := by
  unfold readCue
  split
  · exact taken_refuse _
  · exact taken_read (length_cueBody_le _)

/-! ## Gains -/

theorem length_gainsBody_le (g : Gains) (name : GainName) : (g.body name).length ≤ 6 := by
  unfold Gains.body
  split <;> simp

/-- An accepted gain request answers at most three fields. -/
theorem taken_gainReply {gains : Gains} (name : GainName) (h : P s → P { s with gains }) :
    (s.gainReply gains name).Taken P s :=
  ⟨h, rfl, rfl, (length_gainsBody_le gains name).trans (by omega)⟩

theorem taken_setGain (K : Kept P) (b : SetGainBody) : (setGain s b).Taken P s := by
  unfold setGain
  split
  · exact taken_refuse _
  next g _ =>
    split
    next hrange => exact taken_gainReply g (K.setGain s g b hrange)
    · exact taken_refuse _

theorem taken_fadeGain (K : Kept P) (b : Nat × Nat) : (fadeGain s b).Taken P s := by
  unfold fadeGain
  split
  · exact taken_refuse _
  next g _ => exact taken_gainReply g (K.fade s g)

theorem taken_cutGain (K : Kept P) (b : Nat × Nat) : (cutGain s b).Taken P s := by
  unfold cutGain
  split
  · exact taken_refuse _
  next g _ => exact taken_gainReply g (K.cut s g)

theorem taken_stepGain (K : Kept P) (b : Nat × Nat) : (stepGain s b).Taken P s := by
  unfold stepGain
  split
  · exact taken_refuse _
  · split
    · exact taken_refuse _
    · exact taken_gainReply _ (K.stepLevel s _ _ _)

theorem taken_readGain (b : Nat × Nat) : (readGain s b).Taken P s := by
  unfold readGain
  split
  · exact taken_refuse _
  next g _ =>
    have hbody := length_gainsBody_le s.gains g
    refine taken_read ?_
    simp only [List.length_append, length_byte1, length_byte2]
    omega

theorem taken_setCeiling (K : Kept P) (v : Nat) : (setCeiling s v).Taken P s := by
  unfold setCeiling
  split
  next hle => exact ⟨K.setCeiling s v hle, rfl, rfl, by simp⟩
  · exact taken_refuse _

/-! ## The link table -/

theorem taken_admitLink (K : Kept P) (a : AdmitBody) : (admitLink s a).Taken P s := by
  unfold admitLink
  split
  · exact taken_refuse _
  next c _ =>
    split
    · exact taken_refuse _
    next i hfree =>
      split
      · exact taken_refuse _
      next hhandle =>
        split
        · exact taken_refuse _
        next hside =>
          exact ⟨K.admits s i c hfree (by simpa using hhandle) (by simpa using hside), rfl, rfl, by simp⟩

/-- The record that an index names is the one in the slot of that index. -/
theorem slot_of_recordAt {v : Nat} {i : Fin 8} {r : LinkRecord} (h : s.recordAt v = .ok (i, r)) :
    i.val = v ∧ s.slots.get i = some r := by
  unfold State.recordAt at h
  split at h
  · cases h
  next k hk =>
    split at h
    · cases h
    next q hq =>
      cases h
      exact ⟨index?_eq_some.mp hk, hq⟩

theorem taken_amendLink (K : Kept P) (b : Nat × List (Nat × Nat)) : (amendLink s b).Taken P s := by
  unfold amendLink
  split
  · exact taken_refuse _
  next i r hrecord =>
    split
    next hentries =>
      split
      · exact taken_refuse _
      next c hc =>
        split
        · exact taken_refuse _
        next hmoves =>
          split
          · exact taken_refuse _
          next hclash =>
            exact ⟨K.amend s i r b.2 c (slot_of_recordAt hrecord).2 hentries hc hmoves (by simpa using hclash), rfl, rfl,
              by simp⟩
    · exact taken_refuse _

theorem taken_readLink (v : Nat) : (readLink s v).Taken P s := by
  unfold readLink
  split
  · exact taken_refuse _
  · exact taken_read (by simp [body_length])

theorem taken_findLink (handle : Nat) : (findLink s handle).Taken P s := by
  unfold findLink
  split
  · split
    · exact taken_read (by simp)
    · exact taken_refuse _
  · exact taken_refuse _

theorem taken_retireLink (K : Kept P) (v : Nat) : (retireLink s v).Taken P s := by
  unfold retireLink
  split
  · exact taken_refuse _
  · exact ⟨K.retire s _, rfl, rfl, by simp⟩

/-! ## Seats and timers -/

theorem taken_setSeat (K : Kept P) (b : SeatBody) : (setSeat s b).Taken P s := by
  unfold setSeat
  split
  · exact taken_refuse _
  next i _ =>
    split
    · exact taken_refuse _
    next m _ =>
      split
      next hrange =>
        obtain ⟨hfade, hhold, hlow, hhigh⟩ := hrange
        exact ⟨K.setSeat s i m b hfade hhold hlow hhigh, rfl, rfl, by simp⟩
      · exact taken_refuse _

theorem length_sideEntry (seat : Fin 4) (side : Side) : (s.sideEntry seat side).length = 3 := by
  unfold State.sideEntry
  split <;> simp

theorem length_crossfadeBytes (x : Option Crossfade) : (crossfadeBytes x).length = 5 := by cases x <;> rfl

theorem length_seatBody (i : Fin 4) : (s.seatBody i).length = 20 := by
  simp [State.seatBody, length_sideEntry, length_crossfadeBytes]

theorem taken_readSeat (v : Nat) : (readSeat s v).Taken P s := by
  unfold readSeat
  split
  · exact taken_refuse _
  · exact taken_read (by simp [length_seatBody])

theorem word16_le (lo hi : Byte) : word16 lo hi ≤ 65535 := by
  have hlo := lo.isLt
  have hhi := hi.isLt
  unfold word16
  omega

theorem load_le_of_bodyLoad {body : List Byte} {b : LoadBody} (h : bodyLoad body = some b) : b.load ≤ 65535 := by
  unfold bodyLoad at h
  split at h
  · cases h
    exact word16_le _ _
  · cases h

theorem taken_loadTimer (K : Kept P) {b : LoadBody} (hload : b.load ≤ 65535) : (loadTimer s b).Taken P s := by
  unfold loadTimer
  split
  · exact taken_refuse _
  next i _ =>
    split
    next mode source _ _ =>
      split
      · exact taken_refuse _
      next hright =>
        rw [not_or] at hright
        exact ⟨K.loadTimer s i b.load mode source hright.1 hload hright.2, rfl, rfl, by simp⟩
    · exact taken_refuse _

theorem taken_startTimer (K : Kept P) (v : Nat) : (startTimer s v).Taken P s := by
  unfold startTimer
  split
  · exact taken_refuse _
  · split
    · exact taken_refuse _
    · exact ⟨K.startTimer s _, rfl, rfl, by simp⟩

theorem taken_stopTimer (K : Kept P) (v : Nat) : (stopTimer s v).Taken P s := by
  unfold stopTimer
  split
  · exact taken_refuse _
  · exact ⟨K.stopTimer s _, rfl, rfl, by simp⟩

theorem taken_readTimer (v : Nat) : (readTimer s v).Taken P s := by
  unfold readTimer
  split
  · exact taken_refuse _
  · exact taken_read (by simp [Timer.body])

/-! ## Every command -/

theorem length_response (r : Response) : r.bytes.length = r.body.length + 4 := by
  simp only [Response.bytes, List.length_append, length_byte1, List.length_cons, List.length_nil]
  omega

theorem takeRequest_kept {α : Type} (K : Kept P) (code : Byte) (body? : List Byte → Option α)
    (owner : State → α → Reply) (howner : ∀ body b, body? body = some b → (owner s b).Taken P s) (h : P s) :
    P (s.takeRequest code body? owner) := by
  rcases takeRequest_cases s code body? owner with
    heq | ⟨held, hready, hheld, heq⟩ | ⟨held, tag, body, b, hready, hheld, -, hb, heq⟩ <;> rw [heq]
  · exact h
  · exact K.placeResponse s held _ hready hheld (by simp [length_response, HeldRequest.refusal]) h
  · have htaken := howner body b hb
    refine handleGroup_kept K _ _ (K.placeResponse _ held _ (htaken.phase.trans hready) (htaken.iface.trans hheld) ?_
      (htaken.keeps h))
    rw [length_response]
    exact Nat.add_le_add_right htaken.body 4

theorem takeReset_kept (K : Kept P) (h : P s) : P s.takeReset := by
  refine whenReady_kept (fun hready h => ?_) h
  split
  next held hheld =>
    split
    · split
      · exact K.resetTo s _ h
      · exact K.placeResponse s held _ hready hheld (by simp [length_response, HeldRequest.refusal]) h
    · exact h
  · exact h

theorem refuseFraming_kept (K : Kept P) (h : P s) : P s.refuseFraming := by
  refine whenReady_kept (fun hready h => ?_) h
  split
  next held hheld =>
    split
    · exact h
    · exact K.placeResponse s held _ hready hheld (by simp [length_response, HeldRequest.refusal]) h
  · exact h

/-- A row that is an event where it is due, and nothing else. -/
theorem due_kept {c : Prop} [Decidable c] {t : State} (ht : P t) (h : P s) : P (if c then t else s) := by
  split
  · exact ht
  · exact h

/-- Every command completes, and keeps what every operation keeps. -/
theorem exec_kept (K : Kept P) (c : Instr) (h : P s) : ∃ t, exec c s = .next t ∧ P t := by
  cases c with
  | resetNFall => exact ⟨_, rfl, K.resetTo s _ h⟩
  | resetNRise =>
    refine ⟨_, rfl, ?_⟩
    split
    next hreset => exact K.startUp s hreset h
    · exact h
  | startUpEnd =>
    refine ⟨_, rfl, ?_⟩
    unfold State.endStartUp
    split
    next hstart => exact K.ready s hstart h
    · exact h
  | tick => exact ⟨_, rfl, state_tick_kept K s h⟩
  | supervisionExpiry i => exact ⟨_, rfl, due_kept (state_tick_kept K s h) h⟩
  | timerExpiry i => exact ⟨_, rfl, due_kept (state_tick_kept K s h) h⟩
  | holdoverPassBoundary => exact ⟨_, rfl, due_kept (state_tick_kept K s h) h⟩
  | automaticCallEnd => exact ⟨_, rfl, due_kept (state_tick_kept K s h) h⟩
  | frameSync x u => exact ⟨_, rfl, state_frameSync_kept K s x u h⟩
  | lock x u => exact ⟨_, rfl, due_kept (state_frameSync_kept K s x u h) h⟩
  | callPassBoundary x u => exact ⟨_, rfl, due_kept (state_frameSync_kept K s x u h) h⟩
  | passCompletion => exact ⟨_, rfl, whenReady_kept (fun _ => completePass_kept K s) h⟩
  | audioDownComplete => exact ⟨_, rfl, whenReady_kept (fun _ => downComplete_kept K s) h⟩
  | audioUp bytes ends => exact ⟨_, rfl, receive_kept K s bytes ends h⟩
  | linkStatus bytes ends => exact ⟨_, rfl, receive_kept K s bytes ends h⟩
  | writeTransaction shift => exact ⟨_, rfl, transact_kept K s shift h⟩
  | readTransaction shift => exact ⟨_, rfl, transact_kept K s shift h⟩
  | admitLink => exact ⟨_, rfl, takeRequest_kept K _ _ _ (fun _ b _ => taken_admitLink K b) h⟩
  | amendLink => exact ⟨_, rfl, takeRequest_kept K _ _ _ (fun _ b _ => taken_amendLink K b) h⟩
  | readLink => exact ⟨_, rfl, takeRequest_kept K _ _ _ (fun _ b _ => taken_readLink b) h⟩
  | findLink => exact ⟨_, rfl, takeRequest_kept K _ _ _ (fun _ b _ => taken_findLink b) h⟩
  | retireLink => exact ⟨_, rfl, takeRequest_kept K _ _ _ (fun _ b _ => taken_retireLink K b) h⟩
  | setSeat => exact ⟨_, rfl, takeRequest_kept K _ _ _ (fun _ b _ => taken_setSeat K b) h⟩
  | readSeat => exact ⟨_, rfl, takeRequest_kept K _ _ _ (fun _ b _ => taken_readSeat b) h⟩
  | setGain => exact ⟨_, rfl, takeRequest_kept K _ _ _ (fun _ b _ => taken_setGain K b) h⟩
  | fade => exact ⟨_, rfl, takeRequest_kept K _ _ _ (fun _ b _ => taken_fadeGain K b) h⟩
  | cut => exact ⟨_, rfl, takeRequest_kept K _ _ _ (fun _ b _ => taken_cutGain K b) h⟩
  | stepGain => exact ⟨_, rfl, takeRequest_kept K _ _ _ (fun _ b _ => taken_stepGain K b) h⟩
  | readGain => exact ⟨_, rfl, takeRequest_kept K _ _ _ (fun _ b _ => taken_readGain b) h⟩
  | setSidetoneCeiling => exact ⟨_, rfl, takeRequest_kept K _ _ _ (fun _ b _ => taken_setCeiling K b) h⟩
  | loadTimer =>
    exact ⟨_, rfl, takeRequest_kept K _ _ _ (fun _ _ hb => taken_loadTimer K (load_le_of_bodyLoad hb)) h⟩
  | startTimer => exact ⟨_, rfl, takeRequest_kept K _ _ _ (fun _ b _ => taken_startTimer K b) h⟩
  | stopTimer => exact ⟨_, rfl, takeRequest_kept K _ _ _ (fun _ b _ => taken_stopTimer K b) h⟩
  | readTimer => exact ⟨_, rfl, takeRequest_kept K _ _ _ (fun _ b _ => taken_readTimer b) h⟩
  | setCue => exact ⟨_, rfl, takeRequest_kept K _ _ _ (fun _ b _ => taken_setCue K b) h⟩
  | enableCue => exact ⟨_, rfl, takeRequest_kept K _ _ _ (fun _ b _ => taken_enableCue K b) h⟩
  | disableCue => exact ⟨_, rfl, takeRequest_kept K _ _ _ (fun _ b _ => taken_disableCue K b) h⟩
  | fireCue => exact ⟨_, rfl, takeRequest_kept K _ _ _ (fun _ b _ => taken_fireCue K b) h⟩
  | readCue => exact ⟨_, rfl, takeRequest_kept K _ _ _ (fun _ b _ => taken_readCue b) h⟩
  | callStart => exact ⟨_, rfl, takeRequest_kept K _ _ _ (fun _ _ _ => taken_callStart K) h⟩
  | callEnd => exact ⟨_, rfl, takeRequest_kept K _ _ _ (fun _ _ _ => taken_callEnd K) h⟩
  | callClear => exact ⟨_, rfl, takeRequest_kept K _ _ _ (fun _ _ _ => taken_callClear K) h⟩
  | readNotices => exact ⟨_, rfl, takeRequest_kept K _ _ _ (fun _ _ _ => taken_readNotices) h⟩
  | clearNotices => exact ⟨_, rfl, takeRequest_kept K _ _ _ (fun _ b _ => taken_clearNotices K b) h⟩
  | setNoticeMask => exact ⟨_, rfl, takeRequest_kept K _ _ _ (fun _ b _ => taken_setNoticeMask K b) h⟩
  | clearClip => exact ⟨_, rfl, takeRequest_kept K _ _ _ (fun _ b _ => taken_clearClip K b) h⟩
  | readPortCounters => exact ⟨_, rfl, takeRequest_kept K _ _ _ (fun _ _ _ => taken_readPortCounters) h⟩
  | identify => exact ⟨_, rfl, takeRequest_kept K _ _ _ (fun _ _ _ => taken_identify) h⟩
  | reset => exact ⟨_, rfl, takeReset_kept K h⟩
  | csNFall => exact ⟨_, rfl, K.beginTransaction s h⟩
  | framingRefusal => exact ⟨_, rfl, refuseFraming_kept K h⟩

/-- A step keeps what every operation keeps and what does not look at the queue of waiting commands. -/
theorem step_kept (K : Kept P) (hqueue : ∀ s rest, P s → P { s with pending := rest }) {t : State} (h : P s)
    (hstep : step s = .next t) : P t := by
  unfold step at hstep
  split at hstep
  · cases hstep
    exact h
  next c rest _ =>
    obtain ⟨u, hu, hP⟩ := exec_kept K c (hqueue s rest h)
    rw [hu] at hstep
    cases hstep
    exact hP

end

end Sys2Proof.Machine
end

section
/-! SUPPORT. The frame of each operation that branches: the part after it is the part before, but for the fields named. -/

namespace Sys2Proof.Machine

open Sys2Proof

theorem shiftByte_rest (s : State) (b : Byte) :
    s.shiftByte b = { s with transaction := (s.shiftByte b).transaction, miso := (s.shiftByte b).miso } := by
  unfold State.shiftByte
  split <;> rfl

theorem acceptWrite_rest (s : State) (bytes : List Byte) (count : Nat) :
    s.acceptWrite bytes count =
      { s with iface := (s.acceptWrite bytes count).iface, busy := (s.acceptWrite bytes count).busy } := by
  unfold State.acceptWrite
  split
  · rfl
  · split <;> rfl

theorem finishRead_rest (s : State) (sends : Option Response) (count : Nat) :
    s.finishRead sends count = { s with iface := (s.finishRead sends count).iface } := by
  unfold State.finishRead
  split
  · split <;> rfl
  · rfl

/-- All that a rise of CS_N can do to the part: nothing beyond ending the transaction, a WRITE's end, or a READ's end. -/
theorem endTransaction_cases (s : State) :
    s.endTransaction = { s with transaction := .idle } ∨
    ∃ t, s.transaction = .taken t ∧ s.phase = .ready ∧
      ((t.kind = some 0x01 ∧ s.endTransaction = State.acceptWrite { s with transaction := .idle } t.bytes t.count) ∨
        (t.kind = some 0x02 ∧ s.endTransaction = State.finishRead { s with transaction := .idle } t.sends t.count)) := by
  unfold State.endTransaction
  split
  next t ht =>
    by_cases hready : s.phase = .ready
    · have hnow := fun f => whenReady_of_ready { s with transaction := .idle } f hready
      by_cases hwrite : t.kind = some 0x01
      · exact .inr ⟨t, ht, hready, .inl ⟨hwrite, (hnow _).trans (if_pos hwrite)⟩⟩
      · by_cases hread : t.kind = some 0x02
        · exact .inr ⟨t, ht, hready, .inr ⟨hread, (hnow _).trans ((if_neg hwrite).trans (if_pos hread))⟩⟩
        · exact .inl ((hnow _).trans ((if_neg hwrite).trans (if_neg hread)))
    · exact .inl (whenReady_of_not_ready { s with transaction := .idle } _ hready)
  · exact .inl rfl

theorem endTransaction_rest (s : State) :
    s.endTransaction =
      { s with transaction := .idle, iface := s.endTransaction.iface, busy := s.endTransaction.busy } := by
  rcases endTransaction_cases s with h | ⟨t, -, -, ⟨-, h⟩ | ⟨-, h⟩⟩ <;> rw [h]
  · rw [acceptWrite_rest]
  · rw [finishRead_rest]

/-- A tick's lock test that moves the engine from CALL to HOLDOVER: LOCKED, with no frame sync since the tick before (R142,
R145). -/
def State.LosesClock (s : State) : Prop := s.engine = .call ∧ s.pcm.lock = .locked ∧ s.pcm.seen = false

/-- A lock test that leaves the engine in its state reaches the port alone. -/
theorem testLock_of_kept {e : Event} (h : ¬e.st.LosesClock) :
    e.testLock = e.onState fun s => { s with pcm := s.pcm.afterTick } := by
  unfold State.LosesClock at h
  unfold Event.testLock PcmPort.afterTick
  cases hseen : e.st.pcm.seen with
  | true => simp [Event.onState, hseen]
  | false =>
    by_cases hlock : e.st.pcm.lock = .locked
    · have hcall : e.st.engine ≠ .call := fun hcall => h ⟨hcall, hlock, hseen⟩
      simp [Event.onState, Event.loseLock, PcmPort.endCall, hseen, hlock, hcall]
    · simp [Event.onState, hseen, hlock]

/-- A lock test in CALL that finds the clock lost. -/
theorem testLock_of_lost {e : Event} (h : e.st.LosesClock) :
    e.testLock = (e.onState fun s =>
      { s with
        pcm := s.pcm.afterTick, engine := .holdover, holdover := 0
        notices := s.notices.raise .clock }).issue .clockLost := by
  obtain ⟨hcall, hlock, hseen⟩ := h
  unfold Event.testLock PcmPort.afterTick
  simp [Event.onState, Event.loseLock, PcmPort.endCall, hseen, hlock, hcall]

theorem testLock_rest (e : Event) :
    e.testLock.st = { e.st with
      pcm := e.st.pcm.afterTick, engine := e.testLock.st.engine, holdover := e.testLock.st.holdover
      notices := e.testLock.st.notices } := by
  by_cases h : e.st.LosesClock
  · rw [testLock_of_lost h]
    rfl
  · rw [testLock_of_kept h]
    rfl

/-- The port after the lock detection of a frame sync (R137, R141). -/
def PcmPort.afterSync (p : PcmPort) : PcmPort :=
  if p.locks then { p with seen := true, lock := .locked, run := 0, b := 0 }
  else if p.lock = .unlocked then { p with seen := true, run := p.run + 1 }
  else { p with seen := true }

/-- A lock detection that leaves the engine in its state reaches the port alone. -/
theorem detectLock_of_kept {e : Event} (h : ¬(e.st.pcm.locks = true ∧ e.st.engine = .holdover)) :
    e.detectLock = e.onState fun s => { s with pcm := s.pcm.afterSync } := by
  unfold Event.detectLock PcmPort.afterSync
  by_cases hlocks : e.st.pcm.locks = true
  · have hengine : e.st.engine ≠ .holdover := fun hholdover => h ⟨hlocks, hholdover⟩
    simp [Event.onState, Event.gainLock, hlocks, hengine]
  · by_cases hlock : e.st.pcm.lock = .unlocked
    · simp [Event.onState, hlocks, hlock]
    · simp [Event.onState, hlocks, hlock]

/-- A lock made in HOLDOVER, which moves the engine to CALL (R146). -/
theorem detectLock_of_back {e : Event} (hlocks : e.st.pcm.locks = true) (hengine : e.st.engine = .holdover) :
    e.detectLock = (e.onState fun s =>
      { s with
        pcm := { s.pcm.afterSync with side := .waiting, uplink := [] }
        engine := .call, holdover := 0, ticks := 0, notices := s.notices.raise .clock }).issue .clockBack := by
  unfold Event.detectLock PcmPort.afterSync
  simp [Event.onState, Event.gainLock, hlocks, hengine]

theorem detectLock_rest (e : Event) :
    e.detectLock.st = { e.st with
      pcm := e.detectLock.st.pcm, engine := e.detectLock.st.engine, holdover := e.detectLock.st.holdover
      ticks := e.detectLock.st.ticks, notices := e.detectLock.st.notices } := by
  by_cases h : e.st.pcm.locks = true ∧ e.st.engine = .holdover
  · rw [detectLock_of_back h.1 h.2]
    rfl
  · rw [detectLock_of_kept h]
    rfl

theorem transferred_rest (e : Event) (x : Sample) (ulEn : Bool) :
    (e.transferred x ulEn).st = { e.st with
      pcm := (e.transferred x ulEn).st.pcm, engine := (e.transferred x ulEn).st.engine
      holdover := (e.transferred x ulEn).st.holdover, ticks := (e.transferred x ulEn).st.ticks
      notices := (e.transferred x ulEn).st.notices } := by
  unfold Event.transferred
  rw [detectLock_rest]
  rfl

theorem idleFrame_rest (e : Event) :
    e.idleFrame.st = { e.st with
      pcm := e.idleFrame.st.pcm, engine := e.idleFrame.st.engine, holdover := e.idleFrame.st.holdover
      ticks := e.idleFrame.st.ticks, notices := e.idleFrame.st.notices } := by
  unfold Event.idleFrame
  rw [detectLock_rest]
  rfl

theorem disposeUplink_rest (s : State) (row : List Sample) :
    s.disposeUplink row = { s with pcm := (s.disposeUplink row).pcm } := by
  unfold State.disposeUplink
  split <;> rfl

theorem completedStages_rest (e : Event) (n : Snapshot) :
    (e.completedStages n).st = { e.st with
      slots := (e.completedStages n).st.slots, linkChanges := (e.completedStages n).st.linkChanges
      pcm := (e.st.disposeUplink (n.row .uplink)).pcm, uplinkClip := (e.completedStages n).st.uplinkClip
      downClip := (e.completedStages n).st.downClip, gains := e.st.gains.ramp
      seats := e.st.seats.map SeatRecord.advance, pass := none
      notices := (e.completedStages n).st.notices } := by
  simp only [Event.completedStages, Event.onState, Event.judgeClips, Event.stepLinks, State.rampAndAdvance,
    State.mapClips]
  rw [disposeUplink_rest]

theorem takeFarEnd_rest (s : State) : s.takeFarEnd = { s with pcm := s.takeFarEnd.pcm } := by
  unfold State.takeFarEnd
  split <;> rfl

theorem startPass_rest (e : Event) :
    e.startPass.st = { e.st with
      slots := e.startPass.st.slots, linkChanges := e.startPass.st.linkChanges, seats := e.startPass.st.seats
      seatChanges := e.startPass.st.seatChanges, pass := e.startPass.st.pass, notices := e.startPass.st.notices
      pcm := e.st.takeFarEnd.pcm } := by
  simp only [Event.startPass, Event.onState, Event.selectVoices, Event.stepLinks]
  unfold State.takeFarEnd
  split <;> rfl

/-- What becomes of the part at a frame sync in CALL, at a boundary or before it. -/
theorem atCallBoundary_if {P : State → Prop} {s : State} (hreached : 64 ≤ s.pcm.b → P s.atCallBoundary)
    (hbefore : s.pcm.b < 64 → P s) : P (if 64 ≤ s.pcm.b then s.atCallBoundary else s) := by
  split
  next h => exact hreached h
  next h => exact hbefore (by omega)

end Sys2Proof.Machine
end

section
/-! PROOFS. Every command completes and keeps the queue of waiting commands. -/

namespace Sys2Proof.Machine

open Sys2Proof

/-- No operation touches the queue of waiting commands. -/
theorem pending_kept (queue : List Instr) : Kept fun s => s.pending = queue where
  resetTo _ _ h := h
  startUp _ _ h := h
  ready _ _ h := h
  beginTransaction _ h := h
  shiftByte s b h := by rwa [shiftByte_rest]
  endTransaction s h := by rwa [endTransaction_rest]
  clockIn _ _ h := h
  waiting _ h := h
  placeResponse _ _ _ _ _ _ h := h
  mask _ _ h := h
  clearKinds _ _ h := h
  callStart _ _ _ _ h := h
  endCall _ h := h
  clearCall _ h := h
  clearClips _ _ h := h
  setCue _ _ _ _ _ _ h := h
  enableCue _ _ _ h := h
  fireSet s j h := by rwa [fireSet_pending]
  setGain _ _ _ _ h := h
  fade _ _ h := h
  cut _ _ h := h
  stepLevel _ _ _ _ h := h
  setCeiling _ _ _ h := h
  admits _ _ _ _ _ _ h := h
  amend _ _ _ _ _ _ _ _ _ _ h := h
  retire _ _ h := h
  setSeat _ _ _ _ _ _ _ _ h := h
  loadTimer _ _ _ _ _ _ _ _ h := h
  startTimer _ _ h := h
  stopTimer _ _ h := h
  countRadio _ _ _ h := h
  takeFrame _ _ _ _ _ _ _ _ h := h
  lose _ _ _ _ _ h := h
  downSent _ h := h
  serve _ _ _ _ _ h := h
  supervise _ h := h
  tickTimers _ h := h
  tickCounted _ h := h
  testLock e h := by rwa [testLock_rest]
  holdoverCounted _ _ _ h := h
  holdoverBoundary _ h := h
  transferred e x u _ h := atCallBoundary_if (P := fun s => s.pending = queue)
    (fun _ => by rwa [transferred_rest]) (fun _ => by rwa [transferred_rest])
  idleFrame e _ h := by rwa [idleFrame_rest]
  completedStages e n _ h := by rwa [completedStages_rest]
  startPass e _ h := by rwa [startPass_rest]

/-- Settles O2: a command is made of operations none of which touches the queue. -/
theorem everyCommandCompletesAndKeepsTheQueue : Obligations.EveryCommandCompletesAndKeepsTheQueue :=
  fun c s => exec_kept (pending_kept s.pending) c rfl

end Sys2Proof.Machine
end

section
/-! SUPPORT. What a step of one link record keeps of it: its configuration, and that it does not become LIVE. -/

namespace Sys2Proof.Machine

open Sys2Proof

/-- `q` has the configuration of `r`, and is LIVE only if `r` is. -/
structure LinkRecord.Stays (r q : LinkRecord) : Prop where
  config : q.config = r.config
  live : q.state = .live → r.state = .live

theorem stays_refl (r : LinkRecord) : r.Stays r := ⟨rfl, id⟩

theorem stays_trans {p q r : LinkRecord} (h : p.Stays q) (h' : q.Stays r) : p.Stays r :=
  ⟨h'.config.trans h.config, fun hlive => h.live (h'.live hlive)⟩

/-- A record that keeps its configuration and its state. -/
theorem stays_of_eq {r q : LinkRecord} (hconfig : q.config = r.config) (hstate : q.state = r.state) : r.Stays q :=
  ⟨hconfig, fun h => hstate ▸ h⟩

@[simp] theorem writeJitter_config (r : LinkRecord) (xs : List Sample) : (r.writeJitter xs).config = r.config := by
  simp only [LinkRecord.writeJitter]

@[simp] theorem writeJitter_state (r : LinkRecord) (xs : List Sample) : (r.writeJitter xs).state = r.state := by
  simp only [LinkRecord.writeJitter]

@[simp] theorem noteFrame_config (r : LinkRecord) (mute : Bool) (seq : Byte) (samples : List Sample) :
    (r.noteFrame mute seq samples).config = r.config := rfl

@[simp] theorem noteFrame_state (r : LinkRecord) (mute : Bool) (seq : Byte) (samples : List Sample) :
    (r.noteFrame mute seq samples).state = r.state := rfl

/-- What the downlink stage writes of a record (R132). -/
def LinkRecord.withDownlink (r : LinkRecord) (downlink : List Sample) (counters : LinkCounters) (downPosition : Nat)
    (heldSample : Sample) : LinkRecord :=
  { r with downlink, counters, downPosition, heldSample }

/-- The downlink stage writes the downlink queue, the counters, Q and the held sample. -/
theorem resampleDown_eq (r : LinkRecord) (drift : Int) (row : List Sample) :
    ∃ downlink counters downPosition heldSample,
      r.resampleDown drift row = r.withDownlink downlink counters downPosition heldSample := ⟨_, _, _, _, rfl⟩

@[simp] theorem resampleDown_config (r : LinkRecord) (drift : Int) (row : List Sample) :
    (r.resampleDown drift row).config = r.config := by
  obtain ⟨_, _, _, _, h⟩ := resampleDown_eq r drift row
  rw [h]
  rfl

@[simp] theorem resampleDown_state (r : LinkRecord) (drift : Int) (row : List Sample) :
    (r.resampleDown drift row).state = r.state := by
  obtain ⟨_, _, _, _, h⟩ := resampleDown_eq r drift row
  rw [h]
  rfl

@[simp] theorem hush_config (r : LinkRecord) : r.hush.config = r.config := rfl

theorem orderedFrame_stays (r : LinkRecord) (n : Nat) (mute : Bool) (seq : Byte) (samples : List Sample) :
    r.Stays (r.orderedFrame n mute seq samples).record := by
  refine stays_of_eq ?_ ?_ <;> simp [LinkRecord.orderedFrame]

theorem takeFrame_stays (r : LinkRecord) (i : Fin 8) (mute : Bool) (seq : Byte) (samples : List Sample) :
    r.Stays (r.takeFrame i mute seq samples).record := by
  unfold LinkRecord.takeFrame
  split
  · exact ⟨rfl, fun h => by cases h⟩
  · exact ⟨rfl, fun h => by cases h⟩
  · dsimp only
    split
    · exact orderedFrame_stays r _ mute seq samples
    · split
      · unfold LinkRecord.resyncFrame
        dsimp only
        split
        · refine ⟨?_, fun h => ?_⟩
          · simp
          · simp at h
        · refine stays_of_eq ?_ ?_ <;> simp
      · exact ⟨rfl, id⟩

theorem lose_stays (r : LinkRecord) (i : Fin 8) : r.Stays (r.lose i).record := ⟨rfl, fun h => by cases h⟩

theorem endCall_stays (r : LinkRecord) (i : Fin 8) : r.Stays (r.endCall i).record := ⟨rfl, fun h => by cases h⟩

theorem supervise_stays (r : LinkRecord) (i : Fin 8) : r.Stays (r.supervise i).record := by
  unfold LinkRecord.supervise
  split
  · split
    · exact lose_stays r i
    · exact stays_of_eq rfl rfl
  · exact stays_refl r

@[simp] theorem judgeActivity_config (r : LinkRecord) (lvl : Nat) : (r.judgeActivity lvl).config = r.config := by
  unfold LinkRecord.judgeActivity
  split
  · split
    · split <;> rfl
    · rfl
  · split
    · rfl
    · split <;> rfl

@[simp] theorem judgeActivity_state (r : LinkRecord) (lvl : Nat) : (r.judgeActivity lvl).state = r.state := by
  unfold LinkRecord.judgeActivity
  split
  · split
    · split <;> rfl
    · rfl
  · split
    · rfl
    · split <;> rfl

theorem complete_stays (r : LinkRecord) (i : Fin 8) (n : Snapshot) : r.Stays (r.complete i n).record := by
  unfold LinkRecord.complete
  split
  · exact stays_refl r
  · split
    · refine stays_of_eq ?_ ?_ <;> simp
    · exact stays_refl r

theorem windowed_stays (r : LinkRecord) (fill : Nat) : r.Stays (r.windowed fill) := by
  unfold LinkRecord.windowed
  split <;> exact stays_of_eq rfl rfl

theorem supplied_stays (r : LinkRecord) : r.Stays r.supplied := by
  unfold LinkRecord.supplied
  split <;> exact stays_of_eq rfl rfl

theorem supplyStage_stays (r : LinkRecord) (i : Fin 8) : r.Stays (r.supplyStage i).record := by
  unfold LinkRecord.supplyStage
  split
  · unfold LinkRecord.passStart
    dsimp only
    refine stays_trans ?_ (windowed_stays _ _)
    split
    · exact ⟨(supplied_stays _).config, fun h => by cases h⟩
    · exact ⟨(supplied_stays _).config, (supplied_stays _).live⟩
  · exact stays_refl r

@[simp] theorem primingTest_config (r : LinkRecord) (i : Fin 8) : (r.primingTest i).record.config = r.config := by
  unfold LinkRecord.primingTest
  split <;> rfl

end Sys2Proof.Machine
end

section
/-! SUPPORT. The slots and the LIVE set after a pass start (R121, R124). -/

namespace Sys2Proof.Machine

open Sys2Proof

/-- The slots of a pass start once the priming test is done. -/
def Event.primedSlots (e : Event) : Bank 8 (Option LinkRecord) := (e.stepLinks fun i r => r.primingTest i).st.slots

theorem get_primedSlots (e : Event) (i : Fin 8) :
    e.primedSlots.get i = (e.st.slots.get i).map fun r => (r.primingTest i).record := stepLinks_slots e _ i

theorem get_startPass_slots (e : Event) (i : Fin 8) :
    e.startPass.st.slots.get i = (e.primedSlots.get i).map fun r => (r.supplyStage i).record := by
  have hfar (s : State) : s.takeFarEnd.slots = s.slots := by rw [takeFarEnd_rest]
  simp only [Event.startPass, Event.primedSlots, onState_st, hfar, Event.selectVoices]
  exact stepLinks_slots _ _ i

/-- The snapshot that a pass start fixes. -/
def Event.snapshot (e : Event) : Snapshot :=
  ((((e.stepLinks fun i r => r.primingTest i).stepLinks fun i r => r.supplyStage i).selectVoices
    (passLinks e.primedSlots)).st).snapshot (passLinks e.primedSlots)

@[simp] theorem startPass_pass (e : Event) : e.startPass.st.pass = some e.snapshot := rfl

@[simp] theorem snapshot_links (e : Event) : e.snapshot.links = passLinks e.primedSlots := rfl

theorem get_passLinks (slots : Bank 8 (Option LinkRecord)) (i : Fin 8) :
    (passLinks slots).get i = (slots.get i).bind fun r => if r.state = .live then some r.forPass else none := by
  simp [passLinks]

/-- The part of a LIVE record in the LIVE set. -/
theorem get_passLinks_of_live {slots : Bank 8 (Option LinkRecord)} {i : Fin 8} {r : LinkRecord}
    (hr : slots.get i = some r) (hlive : r.state = .live) : (passLinks slots).get i = some r.forPass := by
  simp [get_passLinks, hr, hlive]

end Sys2Proof.Machine
end

section
/-! SUPPORT. What an amended configuration takes from the old one (R9, R10). -/

namespace Sys2Proof.Machine

open Sys2Proof

theorem write_handle (c : RawConfig) (entry : Nat × Nat) (h : entry.1 ≠ 1) : (c.write entry).handle = c.handle := by
  unfold RawConfig.write
  split
  case h_1 hfield => exact absurd hfield h
  all_goals rfl

/-- Entries that do not name the handle keep it. -/
theorem writeAll_handle (entries : List (Nat × Nat)) (c : RawConfig) (h : ∀ e ∈ entries, e.1 ≠ 1) :
    (c.writeAll entries).handle = c.handle := by
  induction entries generalizing c with
  | nil => rfl
  | cons e entries ih =>
    rw [List.forall_mem_cons] at h
    exact (ih (c.write e) h.2).trans (write_handle c e h.1)

theorem entriesOk_iff (low : Nat) (entries : List (Nat × Nat)) :
    entriesOk low entries = true ↔ (∀ e ∈ entries, low ≤ e.1 ∧ e.1 ≤ 12) ∧ (entries.map (·.1)).Nodup := by
  simp [entriesOk]

/-- A checked configuration has the handle of its numbers. -/
theorem handle_of_check {raw : RawConfig} {c : LinkConfig} (h : raw.check = some c) :
    c.handle = BitVec.ofNat 12 raw.handle := by
  unfold RawConfig.check at h
  split at h
  · obtain ⟨seat, -, hside⟩ := Option.bind_eq_some_iff.mp h
    obtain ⟨side, -, rfl⟩ := Option.map_eq_some_iff.mp hside
    rfl
  · cases h

/-- AMEND LINK cannot name the handle, and so keeps it. -/
theorem amended_handle {r : LinkRecord} {entries : List (Nat × Nat)} {c : LinkConfig}
    (hentries : entriesOk 2 entries = true) (hc : (r.config.raw.writeAll entries).check = some c) :
    c.handle = r.config.handle := by
  have hnamed := ((entriesOk_iff 2 entries).mp hentries).1
  rw [handle_of_check hc, writeAll_handle entries _ fun e he => by have := hnamed e he; omega]
  simp [LinkConfig.raw]

end Sys2Proof.Machine
end

section
/-! PROOFS. The laws of the link table, kept by every step (R2, R57, R132). -/

namespace Sys2Proof.Machine

open Sys2Proof

/-- Where every record stays as it was with its configuration or leaves, none becomes LIVE, and the pass in flight stays or ends,
the table stays in order. -/
theorem tableInOrder_of_stays {s t : State} (h : s.TableInOrder)
    (hslots : ∀ i q, t.slots.get i = some q → ∃ r, s.slots.get i = some r ∧ r.Stays q)
    (hpass : ∀ n, t.pass = some n → s.pass = some n) : t.TableInOrder where
  handles i j q r hij hq hr := by
    obtain ⟨q', hq', hsq⟩ := hslots i q hq
    obtain ⟨r', hr', hsr⟩ := hslots j r hr
    rw [hsq.config, hsr.config]
    exact h.handles i j q' r' hij hq' hr'
  sides i j q r hij hq hr := by
    obtain ⟨q', hq', hsq⟩ := hslots i q hq
    obtain ⟨r', hr', hsr⟩ := hslots j r hr
    rw [hsq.config, hsr.config]
    exact h.sides i j q' r' hij hq' hr'
  liveInPass n i r hn hr hlive := by
    obtain ⟨r', hr', hsr⟩ := hslots i r hr
    rw [hsr.config]
    exact h.liveInPass n i r' (hpass n hn) hr' (hsr.live hlive)

theorem tableInOrder_of_eq {s t : State} (h : s.TableInOrder) (hslots : t.slots = s.slots) (hpass : t.pass = s.pass) :
    t.TableInOrder :=
  tableInOrder_of_stays h (fun _ q hq => ⟨q, hslots ▸ hq, stays_refl q⟩) (fun _ hn => hpass ▸ hn)

/-- One record of the table takes a step. -/
theorem tableInOrder_of_set {s t : State} {i : Fin 8} {r q : LinkRecord} (h : s.TableInOrder)
    (hr : s.slots.get i = some r) (hstays : r.Stays q) (hslots : t.slots = s.slots.set i (some q))
    (hpass : t.pass = s.pass) : t.TableInOrder := by
  refine tableInOrder_of_stays h (fun j p hp => ?_) (fun _ hn => hpass ▸ hn)
  rw [hslots, Bank.get_set] at hp
  split at hp
  next hj =>
    cases hp
    exact ⟨r, hj ▸ hr, hstays⟩
  · exact ⟨p, hp, stays_refl p⟩

/-- Every record of the table takes a step. -/
theorem tableInOrder_of_steps {s t : State} {f : Fin 8 → LinkRecord → LinkRecord} (h : s.TableInOrder)
    (hstays : ∀ i (r : LinkRecord), r.Stays (f i r)) (hslots : ∀ i, t.slots.get i = (s.slots.get i).map (f i))
    (hpass : ∀ n, t.pass = some n → s.pass = some n) : t.TableInOrder := by
  refine tableInOrder_of_stays h (fun i q hq => ?_) hpass
  rw [hslots, Option.map_eq_some_iff] at hq
  obtain ⟨r, hr, rfl⟩ := hq
  exact ⟨r, hr, hstays i r⟩

/-- A new record with a handle and a side that no record holds. -/
theorem tableInOrder_admitTo {s : State} {i : Fin 8} {c : LinkConfig} (hhandle : s.byHandle c.handle.toNat = none)
    (hside : holder s.slots c.seat c.side = none) (h : s.TableInOrder) : (s.admitTo i c).TableInOrder := by
  have hnew : ∀ j r, (s.admitTo i c).slots.get j = some r →
      (j = i ∧ r = LinkRecord.admitted c) ∨ (j ≠ i ∧ s.slots.get j = some r) := by
    intro j r hr
    rw [admitTo_slots, Bank.get_set] at hr
    split at hr
    next hj => exact .inl ⟨hj, (Option.some.inj hr).symm⟩
    next hj => exact .inr ⟨hj, hr⟩
  have hhandles : ∀ j r, s.slots.get j = some r → r.config.handle ≠ c.handle := by
    intro j r hr heq
    have := (Bank.find?_eq_none _ _).mp hhandle j
    simp [hr, heq] at this
  have hsides := (holder_eq_none _ _ _).mp hside
  constructor
  case handles =>
    intro j k q r hjk hq hr
    rcases hnew j q hq with ⟨hj, rfl⟩ | ⟨-, hq⟩ <;> rcases hnew k r hr with ⟨hk, rfl⟩ | ⟨-, hr⟩
    · exact absurd (hj.trans hk.symm) hjk
    · exact (hhandles k r hr).symm
    · exact hhandles j q hq
    · exact h.handles j k q r hjk hq hr
  case sides =>
    intro j k q r hjk hq hr
    rcases hnew j q hq with ⟨hj, rfl⟩ | ⟨-, hq⟩ <;> rcases hnew k r hr with ⟨hk, rfl⟩ | ⟨-, hr⟩
    · exact absurd (hj.trans hk.symm) hjk
    · exact fun heq => hsides k r hr ⟨heq.1.symm, heq.2.symm⟩
    · exact hsides j q hq
    · exact h.sides j k q r hjk hq hr
  case liveInPass =>
    intro n j r hn hr hlive
    rcases hnew j r hr with ⟨-, rfl⟩ | ⟨-, hr⟩
    · cases hlive
    · exact h.liveInPass n j r hn hr hlive

/-- A record amended keeps its handle; it takes a side only where no other record holds it, and while it is LIVE none. -/
theorem tableInOrder_amend {s : State} {i : Fin 8} {r : LinkRecord} {c : LinkConfig} (hr : s.slots.get i = some r)
    (hhandle : c.handle = r.config.handle)
    (hmoves : ¬(r.config.moves c = true ∧ (r.state = .priming ∨ r.state = .live)))
    (hclash : s.seatClash i r.config c = false) (h : s.TableInOrder) :
    State.TableInOrder { s with slots := s.slots.set i (some (r.amended c)) } := by
  have hnew : ∀ j q, (s.slots.set i (some (r.amended c))).get j = some q →
      (j = i ∧ q = r.amended c) ∨ (j ≠ i ∧ s.slots.get j = some q) := by
    intro j q hq
    rw [Bank.get_set] at hq
    split at hq
    next hj => exact .inl ⟨hj, (Option.some.inj hq).symm⟩
    next hj => exact .inr ⟨hj, hq⟩
  have hother : ∀ j q, j ≠ i → s.slots.get j = some q → ¬(q.config.seat = c.seat ∧ q.config.side = c.side) := by
    intro j q hji hq heq
    by_cases hsame : r.config.seat = c.seat ∧ r.config.side = c.side
    · exact h.sides j i q r hji hq hr ⟨heq.1.trans hsame.1.symm, heq.2.trans hsame.2.symm⟩
    · have hchanged : (r.config.seat != c.seat || r.config.side != c.side) = true := by
        rw [Bool.or_eq_true, bne_iff_ne, bne_iff_ne]
        exact not_and_or.mp hsame
      rw [State.seatClash, hchanged, Bool.true_and, Bank.any_eq_false] at hclash
      simpa [hji, hq, heq] using hclash j
  constructor
  case handles =>
    intro j k q p hjk hq hp
    rcases hnew j q hq with ⟨hj, rfl⟩ | ⟨-, hq⟩ <;> rcases hnew k p hp with ⟨hk, rfl⟩ | ⟨-, hp⟩
    · exact absurd (hj.trans hk.symm) hjk
    · exact hhandle ▸ h.handles j k r p hjk (hj ▸ hr) hp
    · exact hhandle ▸ h.handles j k q r hjk hq (hk ▸ hr)
    · exact h.handles j k q p hjk hq hp
  case sides =>
    intro j k q p hjk hq hp
    rcases hnew j q hq with ⟨hj, rfl⟩ | ⟨hj, hq⟩ <;> rcases hnew k p hp with ⟨hk, rfl⟩ | ⟨hk, hp⟩
    · exact absurd (hj.trans hk.symm) hjk
    · exact fun heq => hother k p hk hp ⟨heq.1.symm, heq.2.symm⟩
    · exact hother j q hj hq
    · exact h.sides j k q p hjk hq hp
  case liveInPass =>
    intro n j q hn hq hlive
    rcases hnew j q hq with ⟨hj, rfl⟩ | ⟨-, hq⟩
    · have hlive : r.state = .live := hlive
      have hkept : r.config.moves c = false := by simpa [hlive] using hmoves
      simp only [LinkConfig.moves, Bool.or_eq_false_iff, bne_eq_false_iff_eq] at hkept
      obtain ⟨l, hl, hseat, hside⟩ := h.liveInPass n i r hn hr hlive
      exact ⟨l, hj ▸ hl, hseat.trans hkept.1.1, hside.trans hkept.1.2⟩
    · exact h.liveInPass n j q hn hq hlive

/-- A pass start puts every record that is LIVE after it in the LIVE set of its snapshot. -/
theorem tableInOrder_startPass (e : Event) (h : e.st.TableInOrder) : e.startPass.st.TableInOrder := by
  have hback : ∀ i q, e.startPass.st.slots.get i = some q → ∃ p, e.primedSlots.get i = some p ∧ p.Stays q := by
    intro i q hq
    rw [get_startPass_slots, Option.map_eq_some_iff] at hq
    obtain ⟨p, hp, rfl⟩ := hq
    exact ⟨p, hp, supplyStage_stays p i⟩
  have hconfig : ∀ i q, e.startPass.st.slots.get i = some q → ∃ r, e.st.slots.get i = some r ∧ q.config = r.config := by
    intro i q hq
    obtain ⟨p, hp, hstays⟩ := hback i q hq
    rw [get_primedSlots, Option.map_eq_some_iff] at hp
    obtain ⟨r, hr, rfl⟩ := hp
    exact ⟨r, hr, hstays.config.trans (primingTest_config r i)⟩
  constructor
  case handles =>
    intro i j q r hij hq hr
    obtain ⟨q', hq', hcq⟩ := hconfig i q hq
    obtain ⟨r', hr', hcr⟩ := hconfig j r hr
    rw [hcq, hcr]
    exact h.handles i j q' r' hij hq' hr'
  case sides =>
    intro i j q r hij hq hr
    obtain ⟨q', hq', hcq⟩ := hconfig i q hq
    obtain ⟨r', hr', hcr⟩ := hconfig j r hr
    rw [hcq, hcr]
    exact h.sides i j q' r' hij hq' hr'
  case liveInPass =>
    intro n i r hn hr hlive
    rw [startPass_pass] at hn
    cases hn
    obtain ⟨p, hp, hstays⟩ := hback i r hr
    exact ⟨p.forPass, get_passLinks_of_live hp (hstays.live hlive), congrArg LinkConfig.seat hstays.config.symm,
      congrArg LinkConfig.side hstays.config.symm⟩

/-- A table with no record is in order. -/
theorem tableInOrder_resetTo (s : State) (phase : Phase) : (s.resetTo phase).TableInOrder := by
  have hfree : ∀ i r, (s.resetTo phase).slots.get i ≠ some r := fun i r h => by
    simp [State.resetTo, State.reset] at h
  exact ⟨fun i _ q _ _ hq => absurd hq (hfree i q), fun i _ q _ _ hq => absurd hq (hfree i q),
    fun _ i r _ hr => absurd hr (hfree i r)⟩

/-- Every operation keeps the laws of the table. -/
theorem table_kept : Kept State.TableInOrder where
  resetTo s phase _ := tableInOrder_resetTo s phase
  startUp _ _ h := tableInOrder_of_eq h rfl rfl
  ready _ _ h := tableInOrder_of_eq h rfl rfl
  beginTransaction _ h := tableInOrder_of_eq h rfl rfl
  shiftByte s b h := by rw [shiftByte_rest]; exact tableInOrder_of_eq h rfl rfl
  endTransaction s h := by rw [endTransaction_rest]; exact tableInOrder_of_eq h rfl rfl
  clockIn _ _ h := tableInOrder_of_eq h rfl rfl
  waiting _ h := tableInOrder_of_eq h rfl rfl
  placeResponse _ _ _ _ _ _ h := tableInOrder_of_eq h rfl rfl
  mask _ _ h := tableInOrder_of_eq h rfl rfl
  clearKinds _ _ h := tableInOrder_of_eq h rfl rfl
  callStart _ _ _ _ h := tableInOrder_of_eq h rfl rfl
  endCall e h := tableInOrder_of_steps h (fun i r => endCall_stays r i) (stepLinks_slots e _) (fun _ hn => by cases hn)
  clearCall s h := tableInOrder_of_steps (f := fun _ r => LinkRecord.admitted r.config) h
    (fun _ _ => ⟨rfl, fun hlive => by cases hlive⟩) (fun i => by simp [State.clearCall]) (fun _ hn => by cases hn)
  clearClips _ _ h := tableInOrder_of_eq h rfl rfl
  setCue _ _ _ _ _ _ h := tableInOrder_of_eq h rfl rfl
  enableCue _ _ _ h := tableInOrder_of_eq h rfl rfl
  fireSet s j h := tableInOrder_of_eq h (fireSet_slots s j) (fireSet_pass s j)
  setGain _ _ _ _ h := tableInOrder_of_eq h rfl rfl
  fade _ _ h := tableInOrder_of_eq h rfl rfl
  cut _ _ h := tableInOrder_of_eq h rfl rfl
  stepLevel _ _ _ _ h := tableInOrder_of_eq h rfl rfl
  setCeiling _ _ _ h := tableInOrder_of_eq h rfl rfl
  admits _ _ _ _ hhandle hside h := tableInOrder_admitTo hhandle hside h
  amend _ _ _ _ _ hr hentries hc hmoves hclash h :=
    tableInOrder_amend hr (amended_handle hentries hc) hmoves hclash h
  retire s i h := by
    refine tableInOrder_of_stays h (fun j q hq => ⟨q, ?_, stays_refl q⟩) (fun _ hn => hn)
    have hq : (s.slots.set i none).get j = some q := hq
    rw [Bank.get_set] at hq
    split at hq
    · cases hq
    · exact hq
  setSeat _ _ _ _ _ _ _ _ h := tableInOrder_of_eq h rfl rfl
  loadTimer _ _ _ _ _ _ _ _ h := tableInOrder_of_eq h rfl rfl
  startTimer _ _ h := tableInOrder_of_eq h rfl rfl
  stopTimer _ _ h := tableInOrder_of_eq h rfl rfl
  countRadio _ _ _ h := tableInOrder_of_eq h rfl rfl
  takeFrame _ i r mute seq samples _ hr h := tableInOrder_of_set h hr (takeFrame_stays r i mute seq samples) rfl rfl
  lose _ i r hr _ h := tableInOrder_of_set h hr (lose_stays r i) rfl rfl
  downSent _ h := tableInOrder_of_eq h rfl rfl
  serve s i r hr _ h := by
    have hstays : r.Stays { r with downlink := r.downlink.drop r.config.blockLength, downSeq := r.downSeq + 1 } :=
      stays_of_eq rfl rfl
    exact tableInOrder_of_set h hr hstays rfl rfl
  supervise e h := tableInOrder_of_steps h (fun i r => supervise_stays r i) (stepLinks_slots e _) (fun _ hn => hn)
  tickTimers _ h := tableInOrder_of_eq h rfl rfl
  tickCounted _ h := tableInOrder_of_eq h rfl rfl
  testLock e h := by rw [testLock_rest]; exact tableInOrder_of_eq h rfl rfl
  holdoverCounted _ _ _ h := tableInOrder_of_eq h rfl rfl
  holdoverBoundary _ h := tableInOrder_of_eq h rfl rfl
  transferred e x u _ h := by
    have hslots : (e.transferred x u).st.slots = e.st.slots := by rw [transferred_rest]
    have hpass : (e.transferred x u).st.pass = e.st.pass := by rw [transferred_rest]
    exact atCallBoundary_if (fun _ => tableInOrder_of_eq h hslots hpass) (fun _ => tableInOrder_of_eq h hslots hpass)
  idleFrame e _ h := by rw [idleFrame_rest]; exact tableInOrder_of_eq h rfl rfl
  completedStages e n _ h := by
    refine tableInOrder_of_steps (f := fun i r => (r.complete i n).record) h (fun i r => complete_stays r i n)
      (fun i => ?_) (fun m hm => ?_)
    · have hslots (s : State) (row : List Sample) : (s.disposeUplink row).slots = s.slots := by rw [disposeUplink_rest]
      refine (stepLinks_slots _ _ i).trans (congrArg _ (congrArg (fun b : Bank 8 (Option LinkRecord) => b.get i) ?_))
      exact hslots e.st (n.row .uplink)
    · rw [completedStages_rest] at hm
      cases hm
  startPass e _ h := tableInOrder_startPass e h

/-- Settles O57: every operation keeps the laws of the table, so every step does. -/
theorem everyStepKeepsTheTableInOrder : Obligations.EveryStepKeepsTheTableInOrder :=
  fun _ _ h hstep => step_kept table_kept (fun _ _ h => tableInOrder_of_eq h rfl rfl) h hstep

end Sys2Proof.Machine
end

section
/-! SUPPORT. The part STOPPED, and the writes that leave it silent: currents that do not rise, seats that select nothing. -/

namespace Sys2Proof.Machine

open Sys2Proof

/-- No current of `after` is above that of the same gain in `g`. -/
def Gains.NoLouder (g after : Gains) : Prop :=
  ∀ name y, after.get? name = some y → ∃ x, g.get? name = some x ∧ y.current ≤ x.current

theorem noLouder_refl (g : Gains) : g.NoLouder g := fun _ y hy => ⟨y, hy, le_rfl⟩

theorem noLouder_modify (g : Gains) (name : GainName) {f : Gain → Gain} (hf : ∀ x, (f x).current ≤ x.current) :
    g.NoLouder (g.modify name f) := by
  intro other y hy
  rw [get?_modify] at hy
  split at hy
  next hname =>
    obtain ⟨x, hx, rfl⟩ := Option.map_eq_some_iff.mp hy
    exact ⟨x, hname ▸ hx, hf x⟩
  · exact ⟨y, hy, le_rfl⟩

theorem noLouder_writeTarget (g : Gains) (name : GainName) (target : Nat) (step : Option Nat) :
    g.NoLouder (g.writeTarget name target step) := noLouder_modify g name fun _ => le_rfl

theorem noLouder_fade (g : Gains) (name : GainName) : g.NoLouder (g.fade name) := noLouder_modify g name fun _ => le_rfl

theorem noLouder_cut (g : Gains) (name : GainName) : g.NoLouder (g.cut name) :=
  noLouder_modify g name fun _ => Nat.zero_le _

theorem noLouder_stepLevel (g : Gains) (o : Output) (d : Direction) (amount : Nat) :
    g.NoLouder (g.stepLevel o d amount) := noLouder_modify g _ fun _ => le_rfl

theorem noLouder_setCeiling (g : Gains) (c : Nat) : g.NoLouder (g.setCeiling c) := by
  intro name y hy
  rw [get?_setCeiling, Option.map_eq_some_iff] at hy
  obtain ⟨x, hx, rfl⟩ := hy
  refine ⟨x, hx, ?_⟩
  split
  · exact min_le_left _ _
  · exact le_rfl

/-- A seat that selects nothing (R100). -/
def SeatRecord.Silent (r : SeatRecord) : Prop := r.voice = none ∧ r.crossfade = none ∧ r.stable = 0

theorem silent_endCall (r : SeatRecord) : r.endCall.Silent := ⟨rfl, rfl, rfl⟩

theorem silent_writeMode {r : SeatRecord} (m : SeatMode) (h : r.Silent) : (r.writeMode m).Silent := by
  obtain ⟨hvoice, hfade, hstable⟩ := h
  refine ⟨hvoice, hfade, ?_⟩
  unfold SeatRecord.writeMode
  split
  · exact hstable
  · rfl

theorem silent_configured {r : SeatRecord} (m : SeatMode) (b : SeatBody) (h : r.Silent) : (r.configured m b).Silent :=
  silent_writeMode m h

/-- A record that takes part in no call (R22, R24). -/
def LinkRecord.Resting (r : LinkRecord) : Prop := r.state = .standby ∧ r.jitter = [] ∧ r.downlink = []

theorem resting_endCall (r : LinkRecord) (i : Fin 8) : (r.endCall i).record.Resting := ⟨rfl, rfl, rfl⟩

theorem resting_admitted (c : LinkConfig) : (LinkRecord.admitted c).Resting := ⟨rfl, rfl, rfl⟩

/-- What the part is while the engine is STOPPED (R24, R100, R110, R119). -/
structure State.Silent (s : State) : Prop where
  pass : s.pass = none
  links : ∀ i r, s.slots.get i = some r → r.Resting
  gains : ∀ g x, s.gains.get? g = some x → x.current = 0
  seats : ∀ i, (s.seats.get i).Silent

section

variable {s t : State}

/-- The part stays silent where no current rises and no seat selects. -/
theorem silent_of {s t : State} (h : s.Silent) (hpass : t.pass = s.pass) (hslots : t.slots = s.slots)
    (hgains : s.gains.NoLouder t.gains) (hseats : ∀ i, (s.seats.get i).Silent → (t.seats.get i).Silent) : t.Silent where
  pass := hpass.trans h.pass
  links := by rw [hslots]; exact h.links
  gains g y hy := by
    obtain ⟨x, hx, hle⟩ := hgains g y hy
    have := h.gains g x hx
    omega
  seats i := hseats i (h.seats i)

theorem silent_of_eq (h : s.Silent) (hpass : t.pass = s.pass) (hslots : t.slots = s.slots) (hgains : t.gains = s.gains)
    (hseats : t.seats = s.seats) : t.Silent :=
  silent_of h hpass hslots (hgains ▸ noLouder_refl _) fun _ hi => hseats ▸ hi

theorem silent_of_gains (h : s.Silent) (hpass : t.pass = s.pass) (hslots : t.slots = s.slots) (hseats : t.seats = s.seats)
    (hgains : s.gains.NoLouder t.gains) : t.Silent :=
  silent_of h hpass hslots hgains fun _ hi => hseats ▸ hi

/-- The part stays silent where each record stays at rest. -/
theorem silent_of_links (h : s.Silent) (hpass : t.pass = s.pass) (hgains : t.gains = s.gains) (hseats : t.seats = s.seats)
    (hlinks : ∀ i r, t.slots.get i = some r → s.slots.get i = some r ∨ r.Resting) : t.Silent where
  pass := hpass.trans h.pass
  links i r hr := (hlinks i r hr).elim (h.links i r) id
  gains := by rw [hgains]; exact h.gains
  seats := by rw [hseats]; exact h.seats

/-- What becomes of one seat. -/
theorem silent_onSeat (h : s.Silent) (i : Fin 4) {f : SeatRecord → SeatRecord} (hf : ∀ r, r.Silent → (f r).Silent) :
    (s.onSeat i f).Silent := by
  refine silent_of h rfl rfl (noLouder_refl _) fun j hj => ?_
  rw [onSeat_seats, Bank.get_set]
  split
  next hji => exact hf _ (hji ▸ hj)
  · exact hj

/-- An action of the Cue Unit starts nothing. -/
theorem silent_act (h : s.Silent) (a : Action) : (s.act a).Silent := by
  cases a with
  | none => exact h
  | setTarget g v => exact silent_of_gains h rfl rfl rfl (noLouder_writeTarget _ g v none)
  | fade g => exact silent_of_gains h rfl rfl rfl (noLouder_fade _ g)
  | cut g => exact silent_of_gains h rfl rfl rfl (noLouder_cut _ g)
  | step o d => exact silent_of_gains h rfl rfl rfl (noLouder_stepLevel _ o d _)
  | startTimer i => exact silent_of_eq h rfl rfl rfl rfl
  | stopTimer i => exact silent_of_eq h rfl rfl rfl rfl
  | prefer seat side => exact silent_onSeat h seat fun _ hr => silent_writeMode _ hr

theorem silent_fireSet (h : s.Silent) (j : Fin 4) : (s.fireSet j).Silent := by
  rcases fireSet_cases s j with ⟨reason, -, heq⟩ | ⟨-, heq⟩ <;> rw [heq]
  · exact silent_of_eq h rfl rfl rfl rfl
  · exact silent_of_eq (silent_act h _) rfl rfl rfl rfl

end

end Sys2Proof.Machine
end

section
/-! SUPPORT. The call PCM port in order with the engine, and what its operations make of it (R137 to R142, R151). -/

namespace Sys2Proof.Machine

open Sys2Proof

/-- The port agrees with the engine state, its FIFOs fit, and its counts are in their ranges. -/
structure PcmPort.InOrder (p : PcmPort) (engine : EngineState) : Prop where
  callLocked : engine = .call → p.lock = .locked
  inactive : engine ≠ .call → p.farEnd = [] ∧ p.uplink = [] ∧ p.side = .waiting
  farEnd : p.farEnd.length ≤ 128
  uplink : p.uplink.length ≤ 128
  run : p.run ≤ 63
  lockedRun : p.lock = .locked → p.run = 0
  boundary : p.b ≤ 63

variable {p : PcmPort} {engine engine' : EngineState}

/-- A port with its FIFOs empty and the side WAITING fits every engine state that its lock allows. -/
theorem inOrder_endCall (h : p.InOrder engine) (hlock : engine' = .call → p.lock = .locked) : p.endCall.InOrder engine' where
  callLocked := hlock
  inactive _ := ⟨rfl, rfl, rfl⟩
  farEnd := Nat.zero_le _
  uplink := Nat.zero_le _
  run := h.run
  lockedRun := h.lockedRun
  boundary := h.boundary

theorem inOrder_afterTick (h : p.InOrder engine) (hkept : ¬(engine = .call ∧ p.lock = .locked ∧ p.seen = false)) :
    p.afterTick.InOrder engine := by
  obtain ⟨hlock, hinactive, hfar, hup, hrun, hlockedRun, hb⟩ := h
  unfold PcmPort.afterTick
  split
  · exact ⟨hlock, hinactive, hfar, hup, hrun, hlockedRun, hb⟩
  next hseen =>
    split
    next hlocked =>
      have hcall : engine ≠ .call := fun hcall => hkept ⟨hcall, hlocked, by simpa using hseen⟩
      exact ⟨fun hc => absurd hc hcall, fun _ => ⟨rfl, rfl, rfl⟩, by simp, by simp, by simp, by simp, hb⟩
    · exact ⟨hlock, hinactive, hfar, hup, by simp, by simp, hb⟩

/-- A port that has lost its lock is out of the call. -/
theorem inOrder_afterTick_of_lost (h : p.InOrder engine) (hseen : p.seen = false) (hlocked : p.lock = .locked) :
    p.afterTick.InOrder .holdover := by
  unfold PcmPort.afterTick
  simp only [hseen, hlocked, if_true, Bool.false_eq_true, if_false]
  exact ⟨fun hc => (by cases hc), fun _ => ⟨rfl, rfl, rfl⟩, by simp, by simp, by simp, by simp, h.boundary⟩

theorem locks_iff : p.locks = true ↔ p.lock = .unlocked ∧ 64 ≤ p.run + 1 := by
  simp [PcmPort.locks]

theorem inOrder_afterSync (h : p.InOrder engine) : p.afterSync.InOrder engine := by
  obtain ⟨hlock, hinactive, hfar, hup, hrun, hlockedRun, hb⟩ := h
  unfold PcmPort.afterSync
  split
  · exact ⟨fun _ => rfl, hinactive, hfar, hup, by simp, by simp, by simp⟩
  next hlocks =>
    split
    next hunlocked =>
      have hshort : p.run + 1 ≤ 63 := by
        by_contra hlong
        exact hlocks (locks_iff.mpr ⟨hunlocked, by omega⟩)
      exact ⟨hlock, hinactive, hfar, hup, hshort, fun hl => by simp [hunlocked] at hl, hb⟩
    · exact ⟨hlock, hinactive, hfar, hup, hrun, hlockedRun, hb⟩

/-- A lock made in HOLDOVER opens the port for the call. -/
theorem inOrder_afterSync_of_locks (h : p.InOrder engine) (hlocks : p.locks = true) :
    PcmPort.InOrder { p.afterSync with side := .waiting, uplink := [] } .call := by
  unfold PcmPort.afterSync
  rw [if_pos hlocks]
  exact ⟨fun _ => rfl, fun hc => absurd rfl hc, h.farEnd, by simp, by simp, by simp, by simp⟩

theorem inOrder_idle (h : p.InOrder engine) (dout : Sample) : PcmPort.InOrder { p with dout } engine :=
  ⟨h.callLocked, h.inactive, h.farEnd, h.uplink, h.run, h.lockedRun, h.boundary⟩

/-- A frame sync's far-end sample reaches the far-end FIFO and its slips. -/
theorem takeFarEnd_port_rest (p : PcmPort) (x : Sample) :
    ∃ farEnd slips, p.takeFarEnd x = { p with farEnd, farEndSlips := slips } ∧ farEnd.length ≤ 128 := by
  refine ⟨_, _, rfl, ?_⟩
  simp only [List.length_drop, Config.fifoCapacity]
  omega

theorem startUplink_rest (p : PcmPort) : p.startUplink = { p with side := p.startUplink.side } := by
  unfold PcmPort.startUplink
  split <;> rfl

/-- What the uplink sample of a frame sync leaves of the port. -/
theorem sendUplink_rest (p : PcmPort) (ulEn : Bool) :
    ∃ dout uplink slips, p.sendUplink ulEn = { p with dout, uplink, uplinkSlips := slips } ∧
      uplink.length ≤ p.uplink.length := by
  unfold PcmPort.sendUplink
  split
  · exact ⟨_, _, _, rfl, le_rfl⟩
  · split
    next hempty => exact ⟨_, p.uplink, _, rfl, le_rfl⟩
    next hcons => exact ⟨_, _, _, rfl, by simp [hcons]⟩

/-- The transfer of a frame sync leaves the lock alone, counts b on, and keeps the FIFOs within their size. -/
theorem activeFrame_facts (p : PcmPort) (x : Sample) (ulEn : Bool) :
    (p.activeFrame x ulEn).lock = p.lock ∧ (p.activeFrame x ulEn).run = p.run ∧
      (p.activeFrame x ulEn).b = p.b + 1 ∧ (p.activeFrame x ulEn).farEnd.length ≤ 128 ∧
      (p.activeFrame x ulEn).uplink.length ≤ p.uplink.length := by
  obtain ⟨farEnd, slips, hfar, hlength⟩ := takeFarEnd_port_rest p x
  unfold PcmPort.activeFrame
  rw [hfar, startUplink_rest]
  obtain ⟨dout, uplink, slips', hsend, hle⟩ := sendUplink_rest { p with
    farEnd, farEndSlips := slips, b := p.b + 1
    side := (PcmPort.startUplink { p with farEnd, farEndSlips := slips, b := p.b + 1 }).side } ulEn
  rw [hsend]
  exact ⟨rfl, rfl, rfl, hlength, hle⟩

end Sys2Proof.Machine
end

section
/-! PROOFS. The engine and the port in agreement, kept by every step (chapter 8). -/

namespace Sys2Proof.Machine

open Sys2Proof

/-- The engine's own counts in their ranges (R147, R152). -/
structure CountsInOrder (engine : EngineState) (t h : Nat) : Prop where
  ticks : t ≤ 4
  holdover : h < 2000
  noHoldover : engine ≠ .holdover → h = 0

/-- The engine in order: silent while STOPPED, the port and the counts agreeing with its state. -/
theorem engineInOrder_iff (s : State) : s.EngineInOrder ↔
    (s.engine = .stopped → s.Silent) ∧ s.pcm.InOrder s.engine ∧ CountsInOrder s.engine s.ticks s.holdover := by
  constructor
  · intro h
    exact ⟨fun hs => ⟨h.stoppedPass hs, h.stoppedLinks hs, h.stoppedGains hs, h.stoppedSeats hs⟩,
      ⟨h.callLocked, h.inactivePort, h.farEnd, h.uplink, h.run, h.lockedRun, h.boundary⟩,
      ⟨h.ticks, h.holdover, h.noHoldover⟩⟩
  · rintro ⟨hsilent, hport, hcounts⟩
    exact
      { callLocked := hport.callLocked, stoppedPass := fun hs => (hsilent hs).pass
        stoppedLinks := fun hs => (hsilent hs).links, stoppedGains := fun hs => (hsilent hs).gains
        stoppedSeats := fun hs => (hsilent hs).seats, inactivePort := hport.inactive, farEnd := hport.farEnd
        uplink := hport.uplink, run := hport.run, lockedRun := hport.lockedRun, boundary := hport.boundary
        ticks := hcounts.ticks, holdover := hcounts.holdover, noHoldover := hcounts.noHoldover }

variable {s t : State}

/-- A write that leaves the engine, the port and the counts alone. -/
theorem engineInOrder_of_silent (h : s.EngineInOrder) (hengine : t.engine = s.engine) (hpcm : t.pcm = s.pcm)
    (hticks : t.ticks = s.ticks) (hholdover : t.holdover = s.holdover)
    (hsilent : s.engine = .stopped → s.Silent → t.Silent) : t.EngineInOrder := by
  rw [engineInOrder_iff] at h ⊢
  obtain ⟨hs, hport, hcounts⟩ := h
  rw [hengine, hpcm, hticks, hholdover]
  exact ⟨fun hstop => hsilent hstop (hs hstop), hport, hcounts⟩

/-- A write that reaches nothing of what the engine rules over. -/
theorem engineInOrder_of_eq (h : s.EngineInOrder) (hengine : t.engine = s.engine) (hpcm : t.pcm = s.pcm)
    (hticks : t.ticks = s.ticks) (hholdover : t.holdover = s.holdover) (hpass : t.pass = s.pass)
    (hslots : t.slots = s.slots) (hgains : t.gains = s.gains) (hseats : t.seats = s.seats) : t.EngineInOrder :=
  engineInOrder_of_silent h hengine hpcm hticks hholdover fun _ hs => silent_of_eq hs hpass hslots hgains hseats

/-- A write of the gains that raises no current. -/
theorem engineInOrder_of_gains {gains : Gains} (h : s.EngineInOrder) (hgains : s.gains.NoLouder gains) :
    State.EngineInOrder { s with gains } :=
  engineInOrder_of_silent h rfl rfl rfl rfl fun _ hs => silent_of_gains hs rfl rfl rfl hgains

/-- An event that reaches an engine that is not STOPPED, and leaves it, the port and the counts alone. -/
theorem engineInOrder_of_running (h : s.EngineInOrder) (hrunning : s.engine ≠ .stopped) (hengine : t.engine = s.engine)
    (hport : t.pcm.InOrder s.engine) (hticks : t.ticks = s.ticks) (hholdover : t.holdover = s.holdover) :
    t.EngineInOrder := by
  rw [engineInOrder_iff] at h ⊢
  rw [hengine, hticks, hholdover]
  exact ⟨fun hstop => absurd hstop hrunning, hport, h.2.2⟩

/-- The port or the counts move on in an engine state that stays. -/
theorem engineInOrder_of_port (h : s.EngineInOrder) (hengine : t.engine = s.engine) (hport : t.pcm.InOrder s.engine)
    (hcounts : CountsInOrder s.engine t.ticks t.holdover) (hpass : t.pass = s.pass) (hslots : t.slots = s.slots)
    (hgains : t.gains = s.gains) (hseats : t.seats = s.seats) : t.EngineInOrder := by
  rw [engineInOrder_iff] at h ⊢
  rw [hengine]
  exact ⟨fun hstop => silent_of_eq (h.1 hstop) hpass hslots hgains hseats, hport, hcounts⟩

/-- The counts move on in an engine state that stays. -/
theorem engineInOrder_of_counts (h : s.EngineInOrder) (hengine : t.engine = s.engine) (hpcm : t.pcm = s.pcm)
    (hcounts : CountsInOrder s.engine t.ticks t.holdover) (hpass : t.pass = s.pass) (hslots : t.slots = s.slots)
    (hgains : t.gains = s.gains) (hseats : t.seats = s.seats) : t.EngineInOrder := by
  rw [engineInOrder_iff] at h ⊢
  rw [hengine, hpcm]
  exact ⟨fun hstop => silent_of_eq (h.1 hstop) hpass hslots hgains hseats, h.2.1, hcounts⟩

/-- The engine enters a state other than STOPPED. -/
theorem engineInOrder_of_entered (hrunning : t.engine ≠ .stopped) (hport : t.pcm.InOrder t.engine)
    (hcounts : CountsInOrder t.engine t.ticks t.holdover) : t.EngineInOrder :=
  (engineInOrder_iff t).mpr ⟨fun hstop => absurd hstop hrunning, hport, hcounts⟩

/-- The engine stops: silent, the port out of the call, the counts 0. -/
theorem engineInOrder_of_stopped (hstop : t.engine = .stopped) (hsilent : t.Silent) (hport : t.pcm.InOrder .stopped)
    (hticks : t.ticks = 0) (hholdover : t.holdover = 0) : t.EngineInOrder := by
  rw [engineInOrder_iff, hstop, hticks, hholdover]
  exact ⟨fun _ => hsilent, hport, by simp, by simp, fun _ => rfl⟩

theorem portInOrder (h : s.EngineInOrder) : s.pcm.InOrder s.engine := ((engineInOrder_iff s).mp h).2.1

theorem countsInOrder (h : s.EngineInOrder) : CountsInOrder s.engine s.ticks s.holdover := ((engineInOrder_iff s).mp h).2.2

theorem silent_of_stopped (h : s.EngineInOrder) (hstop : s.engine = .stopped) : s.Silent :=
  ((engineInOrder_iff s).mp h).1 hstop

/-- Every current is 0 at the end of a call. -/
theorem current_endCall (g : Gains) (name : GainName) (x : Gain) (h : g.endCall.get? name = some x) : x.current = 0 := by
  rw [Gains.endCall, get?_mapAll, Option.map_eq_some_iff] at h
  obtain ⟨y, -, rfl⟩ := h
  rfl

theorem seats_endCall (b : Bank 4 SeatRecord) (i : Fin 4) : ((b.map SeatRecord.endCall).get i).Silent := by
  rw [Bank.get_map]
  exact silent_endCall _

theorem engine_endCall (e : Event) (h : e.st.EngineInOrder) : e.endCall.st.EngineInOrder := by
  have hport : e.st.pcm.endCall.InOrder .stopped := inOrder_endCall (portInOrder h) fun hc => by cases hc
  refine engineInOrder_of_stopped rfl ⟨rfl, fun i r hr => ?_, current_endCall e.st.gains, seats_endCall e.st.seats⟩
    hport rfl rfl
  have hslot : (e.stepLinks fun i r => r.endCall i).st.slots.get i = some r := hr
  rw [stepLinks_slots, Option.map_eq_some_iff] at hslot
  obtain ⟨q, -, rfl⟩ := hslot
  exact resting_endCall q i

theorem engine_clearCall (h : s.EngineInOrder) : s.clearCall.EngineInOrder := by
  have hport := inOrder_endCall (engine' := .stopped) (portInOrder h) fun hc => by cases hc
  refine engineInOrder_of_stopped rfl ⟨rfl, fun i r hr => ?_, current_endCall s.gains, seats_endCall s.seats⟩
    ⟨hport.callLocked, hport.inactive, hport.farEnd, hport.uplink, hport.run, hport.lockedRun, hport.boundary⟩ rfl rfl
  simp only [State.clearCall, Bank.get_map, Option.map_eq_some_iff] at hr
  obtain ⟨q, -, rfl⟩ := hr
  exact resting_admitted q.config

theorem engine_resetTo (s : State) (phase : Phase) : (s.resetTo phase).EngineInOrder := by
  refine engineInOrder_of_stopped rfl ⟨rfl, fun i r hr => ?_, fun g x hx => ?_, fun i => ?_⟩
    ⟨fun hc => (by cases hc), fun _ => ⟨rfl, rfl, rfl⟩, Nat.zero_le _, Nat.zero_le _, Nat.zero_le _, fun _ => rfl,
      Nat.zero_le _⟩ rfl rfl
  · simp [State.resetTo, State.reset] at hr
  · have hx : Gains.atReset.get? g = some x := hx
    rcases g with ⟨_ | d, _ | t⟩ | (_ | d) <;>
      simp only [Gains.atReset, Gains.get?, Gains.level, Bank.get_fill, Bank.get_ofFn, Option.some.injEq, reduceCtorEq] at hx <;>
      rw [← hx] <;> rfl
  · simp [State.resetTo, State.reset, SeatRecord.Silent, SeatRecord.atReset]

theorem engine_testLock (e : Event) (h : e.st.EngineInOrder) : e.testLock.st.EngineInOrder := by
  have hcounts := countsInOrder h
  by_cases hlost : e.st.LosesClock
  · rw [testLock_of_lost hlost]
    obtain ⟨hcall, hlock, hseen⟩ := hlost
    exact engineInOrder_of_entered (fun hs => by cases hs) (inOrder_afterTick_of_lost (portInOrder h) hseen hlock)
      ⟨hcounts.ticks, by simp, fun hc => absurd rfl hc⟩
  · rw [testLock_of_kept hlost]
    exact engineInOrder_of_port h rfl (inOrder_afterTick (portInOrder h) hlost) hcounts rfl rfl rfl rfl

theorem engine_detectLock (e : Event) (h : e.st.EngineInOrder) : e.detectLock.st.EngineInOrder := by
  by_cases hback : e.st.pcm.locks = true ∧ e.st.engine = .holdover
  · rw [detectLock_of_back hback.1 hback.2]
    exact engineInOrder_of_entered (fun hs => by cases hs) (inOrder_afterSync_of_locks (portInOrder h) hback.1)
      ⟨Nat.zero_le _, by simp, fun _ => rfl⟩
  · rw [detectLock_of_kept hback]
    exact engineInOrder_of_port h rfl (inOrder_afterSync (portInOrder h)) (countsInOrder h) rfl rfl rfl rfl

theorem engine_idleFrame (e : Event) (h : e.st.EngineInOrder) : e.idleFrame.st.EngineInOrder :=
  engine_detectLock _ (engineInOrder_of_port h rfl (inOrder_idle (portInOrder h) 0) (countsInOrder h) rfl rfl rfl rfl)

/-- A frame sync in CALL: on a LOCKED port the lock detection only sets the sync-seen flag. -/
theorem transferred_of_locked {e : Event} (x : Sample) (ulEn : Bool) (hlock : e.st.pcm.lock = .locked) :
    e.transferred x ulEn = e.onState fun s => { s with pcm := { s.pcm.activeFrame x ulEn with seen := true } } := by
  have hstill : (e.st.pcm.activeFrame x ulEn).lock = .locked := (activeFrame_facts _ x ulEn).1.trans hlock
  have hnolock : (e.st.pcm.activeFrame x ulEn).locks = false := by simp [PcmPort.locks, hstill]
  have hsync : (e.st.pcm.activeFrame x ulEn).afterSync = { e.st.pcm.activeFrame x ulEn with seen := true } := by
    simp [PcmPort.afterSync, hnolock, hstill]
  unfold Event.transferred
  rw [detectLock_of_kept (fun hlocks => by simp [hnolock] at hlocks)]
  simp only [Event.onState, hsync]

theorem engine_transferred (e : Event) (x : Sample) (ulEn : Bool) (hcall : e.st.engine = .call)
    (h : e.st.EngineInOrder) :
    State.EngineInOrder (if 64 ≤ (e.transferred x ulEn).st.pcm.b then (e.transferred x ulEn).st.atCallBoundary
      else (e.transferred x ulEn).st) := by
  have hport := portInOrder h
  have hcounts := countsInOrder h
  have hlock := hport.callLocked hcall
  obtain ⟨hlock', hrun, hb, hfar, hup⟩ := activeFrame_facts e.st.pcm x ulEn
  have hup' := hup.trans hport.uplink
  have hrun0 := hrun.trans (hport.lockedRun hlock)
  rw [transferred_of_locked x ulEn hlock]
  refine atCallBoundary_if (fun _ => ?_) (fun hshort => ?_)
  · refine engineInOrder_of_entered ?_ ⟨fun _ => hlock'.trans hlock, fun hc => absurd hcall hc, hfar, hup', ?_, fun _ => hrun0,
      Nat.zero_le _⟩ ⟨Nat.zero_le _, hcounts.holdover, hcounts.noHoldover⟩
    · exact fun hstop => by simp [State.atCallBoundary, hcall] at hstop
    · exact hrun0.trans_le (Nat.zero_le _)
  · refine engineInOrder_of_entered ?_ ⟨fun _ => hlock'.trans hlock, fun hc => absurd hcall hc, hfar, hup', ?_, fun _ => hrun0,
      ?_⟩ hcounts
    · exact fun hstop => by simp [hcall] at hstop
    · exact hrun0.trans_le (Nat.zero_le _)
    · have hb' : (e.st.pcm.activeFrame x ulEn).b < 64 := hshort
      exact Nat.le_of_lt_succ hb'

/-- The uplink disposal keeps the port in order with an engine state that has not changed since. -/
theorem inOrder_disposeUplink (h : s.EngineInOrder) (row : List Sample) : (s.disposeUplink row).pcm.InOrder s.engine := by
  have hport := portInOrder h
  unfold State.disposeUplink
  split
  next hcall =>
    refine ⟨hport.callLocked, fun hc => absurd hcall hc, hport.farEnd, ?_, hport.run, hport.lockedRun, hport.boundary⟩
    simp only [List.length_drop, Config.fifoCapacity]
    omega
  · exact hport

/-- A pass is in flight only while the engine runs. -/
theorem running_of_pass {n : Snapshot} (h : s.EngineInOrder) (hpass : s.pass = some n) : s.engine ≠ .stopped := by
  intro hstop
  rw [h.stoppedPass hstop] at hpass
  cases hpass

theorem engine_completedStages (e : Event) (n : Snapshot) (hpass : e.st.pass = some n) (h : e.st.EngineInOrder) :
    (e.completedStages n).st.EngineInOrder := by
  rw [completedStages_rest]
  exact engineInOrder_of_running h (running_of_pass h hpass) rfl (inOrder_disposeUplink h _) rfl rfl

theorem inOrder_takeFarEnd (h : s.EngineInOrder) : s.takeFarEnd.pcm.InOrder s.engine := by
  have hport := portInOrder h
  unfold State.takeFarEnd
  split
  next hcall =>
    refine ⟨hport.callLocked, fun hc => absurd hcall hc, ?_, hport.uplink, hport.run, hport.lockedRun, hport.boundary⟩
    exact ((List.length_drop ..).trans_le (Nat.sub_le _ _)).trans hport.farEnd
  · exact hport

theorem engine_startPass (e : Event) (hrunning : e.st.engine ≠ .stopped) (h : e.st.EngineInOrder) :
    e.startPass.st.EngineInOrder := by
  rw [startPass_rest]
  exact engineInOrder_of_running h hrunning rfl (inOrder_takeFarEnd h) rfl rfl

/-- One record of the table changes while the engine is STOPPED, and stays at rest. -/
theorem engineInOrder_of_set {i : Fin 8} {o : Option LinkRecord} (h : s.EngineInOrder) (hengine : t.engine = s.engine)
    (hpcm : t.pcm = s.pcm) (hticks : t.ticks = s.ticks) (hholdover : t.holdover = s.holdover) (hpass : t.pass = s.pass)
    (hgains : t.gains = s.gains) (hseats : t.seats = s.seats) (hslots : t.slots = s.slots.set i o)
    (hrest : s.engine = .stopped → ∀ r, o = some r → r.Resting) : t.EngineInOrder := by
  refine engineInOrder_of_silent h hengine hpcm hticks hholdover fun hstop hs => ?_
  refine silent_of_links hs hpass hgains hseats fun j r hr => ?_
  rw [hslots, Bank.get_set] at hr
  split at hr
  · exact .inr (hrest hstop r hr)
  · exact .inl hr

/-- Supervision passes over a record that is not running. -/
theorem supervise_of_not_running {r : LinkRecord} {i : Fin 8} (h : r.state = .standby) :
    r.supervise i = { record := r } := by
  simp [LinkRecord.supervise, h]

theorem engine_supervise (e : Event) (h : e.st.EngineInOrder) :
    (e.stepLinks fun i r => r.supervise i).st.EngineInOrder := by
  refine engineInOrder_of_silent h rfl rfl rfl rfl fun _ hs => ?_
  refine silent_of_links hs rfl rfl rfl fun i r hr => .inl ?_
  rw [stepLinks_slots, Option.map_eq_some_iff] at hr
  obtain ⟨q, hq, rfl⟩ := hr
  rwa [supervise_of_not_running (hs.links i q hq).1]

theorem engine_fireSet (j : Fin 4) (h : s.EngineInOrder) : (s.fireSet j).EngineInOrder :=
  engineInOrder_of_silent h (fireSet_engine s j) (fireSet_pcm s j) (fireSet_ticks s j) (fireSet_holdover s j)
    fun _ hs => silent_fireSet hs j

theorem engine_callStart (engine : EngineState) (hengine : engine = (if s.pcm.lock = .locked then .call else .holdover))
    (h : s.EngineInOrder) :
    State.EngineInOrder { s with
      engine, ticks := 0, holdover := 0, pcm := { s.pcm.endCall with b := 0 }, notices := s.notices.raise .clock } := by
  have hlock : engine = .call → s.pcm.lock = .locked := by
    intro hcall
    by_contra hunlocked
    rw [hcall, if_neg hunlocked] at hengine
    cases hengine
  have hport := inOrder_endCall (portInOrder h) hlock
  refine engineInOrder_of_entered ?_
    ⟨hlock, hport.inactive, hport.farEnd, hport.uplink, hport.run, hport.lockedRun, Nat.zero_le _⟩
    ⟨Nat.zero_le _, by simp, fun _ => rfl⟩
  rw [hengine]
  split <;> simp

/-- Every operation keeps the engine in order. -/
theorem engine_kept : Kept State.EngineInOrder where
  resetTo s phase _ := engine_resetTo s phase
  startUp _ _ h := engineInOrder_of_eq h rfl rfl rfl rfl rfl rfl rfl rfl
  ready _ _ h := engineInOrder_of_eq h rfl rfl rfl rfl rfl rfl rfl rfl
  beginTransaction _ h := engineInOrder_of_eq h rfl rfl rfl rfl rfl rfl rfl rfl
  shiftByte s b h := by rw [shiftByte_rest]; exact engineInOrder_of_eq h rfl rfl rfl rfl rfl rfl rfl rfl
  endTransaction s h := by rw [endTransaction_rest]; exact engineInOrder_of_eq h rfl rfl rfl rfl rfl rfl rfl rfl
  clockIn _ _ h := engineInOrder_of_eq h rfl rfl rfl rfl rfl rfl rfl rfl
  waiting _ h := engineInOrder_of_eq h rfl rfl rfl rfl rfl rfl rfl rfl
  placeResponse _ _ _ _ _ _ h := engineInOrder_of_eq h rfl rfl rfl rfl rfl rfl rfl rfl
  mask _ _ h := engineInOrder_of_eq h rfl rfl rfl rfl rfl rfl rfl rfl
  clearKinds _ _ h := engineInOrder_of_eq h rfl rfl rfl rfl rfl rfl rfl rfl
  callStart _ engine _ hengine h := engine_callStart engine hengine h
  endCall e h := engine_endCall e h
  clearCall _ h := engine_clearCall h
  clearClips _ _ h := engineInOrder_of_eq h rfl rfl rfl rfl rfl rfl rfl rfl
  setCue _ _ _ _ _ _ h := engineInOrder_of_eq h rfl rfl rfl rfl rfl rfl rfl rfl
  enableCue _ _ _ h := engineInOrder_of_eq h rfl rfl rfl rfl rfl rfl rfl rfl
  fireSet _ j h := engine_fireSet j h
  setGain s g b _ h := engineInOrder_of_gains h (noLouder_writeTarget _ g b.target b.step)
  fade _ g h := engineInOrder_of_gains h (noLouder_fade _ g)
  cut _ g h := engineInOrder_of_gains h (noLouder_cut _ g)
  stepLevel _ o d amount h := engineInOrder_of_gains h (noLouder_stepLevel _ o d amount)
  setCeiling _ c _ h := engineInOrder_of_gains h (noLouder_setCeiling _ c)
  admits s i c _ _ _ h := engineInOrder_of_set h rfl rfl rfl rfl rfl rfl rfl (admitTo_slots s i c)
    fun _ _ hr => Option.some.inj hr ▸ resting_admitted c
  amend s i r entries c hr _ _ _ _ h := engineInOrder_of_set h rfl rfl rfl rfl rfl rfl rfl rfl
    fun hstop _ hq => Option.some.inj hq ▸ (silent_of_stopped h hstop).links i r hr
  retire _ i h := engineInOrder_of_set h rfl rfl rfl rfl rfl rfl rfl (o := none) (i := i) rfl
    fun _ _ hr => by cases hr
  setSeat s i m b _ _ _ _ h := engineInOrder_of_silent h rfl rfl rfl rfl
    fun _ hs => silent_onSeat hs i fun _ hr => silent_configured m b hr
  loadTimer _ _ _ _ _ _ _ _ h := engineInOrder_of_eq h rfl rfl rfl rfl rfl rfl rfl rfl
  startTimer _ _ h := engineInOrder_of_eq h rfl rfl rfl rfl rfl rfl rfl rfl
  stopTimer _ _ h := engineInOrder_of_eq h rfl rfl rfl rfl rfl rfl rfl rfl
  countRadio _ _ _ h := engineInOrder_of_eq h rfl rfl rfl rfl rfl rfl rfl rfl
  takeFrame s _ _ _ _ _ hrunning _ h := engineInOrder_of_running (s := s) h hrunning rfl (portInOrder (s := s) h) rfl rfl
  lose s i r hr hstate h := by
    refine engineInOrder_of_silent h rfl rfl rfl rfl fun _ hs => ?_
    have hstandby := (hs.links i r hr).1
    rcases hstate with hstate | hstate <;> rw [hstate] at hstandby <;> cases hstandby
  downSent _ h := engineInOrder_of_eq h rfl rfl rfl rfl rfl rfl rfl rfl
  serve s i r hr hlive h := by
    refine engineInOrder_of_silent h rfl rfl rfl rfl fun _ hs => ?_
    have hstandby := (hs.links i r hr).1
    rw [hlive] at hstandby
    cases hstandby
  supervise e h := engine_supervise e h
  tickTimers _ h := engineInOrder_of_eq h rfl rfl rfl rfl rfl rfl rfl rfl
  tickCounted s h := engineInOrder_of_counts h rfl rfl
    ⟨min_le_left _ _, (countsInOrder h).holdover, (countsInOrder h).noHoldover⟩ rfl rfl rfl rfl
  testLock e h := engine_testLock e h
  holdoverCounted s hengine hends h := by
    have hbelow : s.holdover + 1 < 2000 := by
      simp only [State.endsCall, Config.holdoverLimit, decide_eq_false_iff_not] at hends
      omega
    exact engineInOrder_of_counts h rfl rfl ⟨min_le_left _ _, hbelow, fun hc => absurd hengine hc⟩ rfl rfl rfl rfl
  holdoverBoundary _ h := engineInOrder_of_counts h rfl rfl
    ⟨Nat.zero_le _, (countsInOrder h).holdover, (countsInOrder h).noHoldover⟩ rfl rfl rfl rfl
  transferred e x u hcall h := engine_transferred e x u hcall h
  idleFrame e _ h := engine_idleFrame e h
  completedStages e n hpass h := engine_completedStages e n hpass h
  startPass e hrunning h := engine_startPass e hrunning h

/-- Settles O58: every operation keeps the engine in order, so every step does. -/
theorem everyStepKeepsTheEngineInOrder : Obligations.EveryStepKeepsTheEngineInOrder :=
  fun _ _ h hstep =>
    step_kept engine_kept (fun _ _ h => engineInOrder_of_eq h rfl rfl rfl rfl rfl rfl rfl rfl) h hstep

end Sys2Proof.Machine
end

section
/-! SUPPORT. Gains in order, and the writes that keep them so (R104, R107 to R109). -/

namespace Sys2Proof.Machine

open Sys2Proof

variable {g : Gains}

/-- A gain within a ceiling (R107). -/
def Gain.Within (c : Nat) (x : Gain) : Prop := x.current ≤ c ∧ x.target ≤ c

/-- A write of one gain that keeps its range, and for an own-voice cell the ceiling. -/
theorem gains_modify (h : g.InOrder) (name : GainName) {f : Gain → Gain} (hrange : ∀ x, x.InRange → (f x).InRange)
    (hown : name.isOwn = true → ∀ x, x.Within g.ceiling → (f x).Within g.ceiling) : (g.modify name f).InOrder where
  range other y hy := by
    rw [get?_modify] at hy
    split at hy
    · obtain ⟨x, hx, rfl⟩ := Option.map_eq_some_iff.mp hy
      exact hrange x (h.range name x hx)
    · exact h.range other y hy
  ceiling := by
    rw [modify_ceiling]
    exact h.ceiling
  own other y ho hy := by
    rw [modify_ceiling]
    rw [get?_modify] at hy
    split at hy
    next hname =>
      obtain ⟨x, hx, rfl⟩ := Option.map_eq_some_iff.mp hy
      exact hown (hname ▸ ho) x (h.own name x (hname ▸ ho) hx)
    · exact h.own other y ho hy

/-- A write of all gains that keeps their ranges and every ceiling. -/
theorem gains_mapAll (h : g.InOrder) {f : Gain → Gain} (hrange : ∀ x, x.InRange → (f x).InRange)
    (hown : ∀ x, x.Within g.ceiling → (f x).Within g.ceiling) : (g.mapAll f).InOrder where
  range name y hy := by
    rw [get?_mapAll, Option.map_eq_some_iff] at hy
    obtain ⟨x, hx, rfl⟩ := hy
    exact hrange x (h.range name x hx)
  ceiling := h.ceiling
  own name y ho hy := by
    rw [get?_mapAll, Option.map_eq_some_iff] at hy
    obtain ⟨x, hx, rfl⟩ := hy
    exact hown x (h.own name x ho hx)

theorem gains_writeTarget (h : g.InOrder) (name : GainName) {target : Nat} {step : Option Nat} (htarget : target ≤ 32767)
    (hstep : ∀ r, step = some r → 1 ≤ r ∧ r ≤ 32767) : (g.writeTarget name target step).InOrder := by
  refine gains_modify h name (fun x hx => ?_) (fun ho x hx => ⟨hx.1, ?_⟩)
  · obtain ⟨hcurrent, -, hlow, hhigh⟩ := hx
    refine ⟨hcurrent, ?_, ?_⟩
    · unfold Gains.storedTarget
      split
      · exact (min_le_left _ _).trans htarget
      · exact htarget
    · cases step with
      | none => exact ⟨hlow, hhigh⟩
      | some r => exact hstep r rfl
  · simp only [Gains.storedTarget, ho, if_true]
    exact min_le_right _ _

theorem gains_fade (h : g.InOrder) (name : GainName) : (g.fade name).InOrder :=
  gains_modify h name (fun _ hx => ⟨hx.1, Nat.zero_le _, hx.2.2⟩) fun _ _ hx => ⟨hx.1, Nat.zero_le _⟩

theorem gains_cut (h : g.InOrder) (name : GainName) : (g.cut name).InOrder :=
  gains_modify h name (fun _ hx => ⟨Nat.zero_le _, Nat.zero_le _, hx.2.2⟩) fun _ _ _ => ⟨Nat.zero_le _, Nat.zero_le _⟩

theorem stepped_le {d : Direction} {amount target : Nat} (h : target ≤ 32767) : stepped d amount target ≤ 32767 := by
  cases d with
  | up => exact min_le_left _ _
  | down => exact (Nat.sub_le _ _).trans h

theorem gains_stepLevel (h : g.InOrder) (o : Output) (d : Direction) (amount : Nat) : (g.stepLevel o d amount).InOrder :=
  gains_modify h (.level o) (fun _ hx => ⟨hx.1, stepped_le hx.2.1, hx.2.2⟩) fun ho => by cases ho

theorem gains_setCeiling (h : g.InOrder) {c : Nat} (hc : c ≤ 8192) : (g.setCeiling c).InOrder where
  range name y hy := by
    rw [get?_setCeiling, Option.map_eq_some_iff] at hy
    obtain ⟨x, hx, rfl⟩ := hy
    obtain ⟨hcurrent, htarget, hstep⟩ := h.range name x hx
    split
    · exact ⟨(min_le_left _ _).trans hcurrent, (min_le_left _ _).trans htarget, hstep⟩
    · exact ⟨hcurrent, htarget, hstep⟩
  ceiling := hc
  own name y ho hy := by
    rw [get?_setCeiling, Option.map_eq_some_iff] at hy
    obtain ⟨x, hx, rfl⟩ := hy
    rw [setCeiling_ceiling]
    split
    · exact ⟨min_le_right _ _, min_le_right _ _⟩
    next hraised =>
      obtain ⟨hcurrent, htarget⟩ := h.own name x ho hx
      have : g.ceiling ≤ c := by
        by_contra hlower
        exact hraised ⟨ho, by omega⟩
      exact ⟨hcurrent.trans this, htarget.trans this⟩

theorem gains_endCall (h : g.InOrder) : g.endCall.InOrder :=
  gains_mapAll h (fun _ hx => ⟨Nat.zero_le _, hx.2⟩) fun _ hx => ⟨Nat.zero_le _, hx.2⟩

/-- A ramp update ends between the current and the target. -/
theorem ramp_current_le {x : Gain} {c : Nat} (hcurrent : x.current ≤ c) (htarget : x.target ≤ c) : x.ramp.current ≤ c := by
  unfold Gain.ramp
  split
  · exact (min_le_left _ _).trans htarget
  · exact max_le htarget ((Nat.sub_le _ _).trans hcurrent)

theorem ramp_rest (x : Gain) : x.ramp = { x with current := x.ramp.current } := by
  unfold Gain.ramp
  split <;> rfl

theorem gains_ramp (h : g.InOrder) : g.ramp.InOrder := by
  refine gains_mapAll h (fun x hx => ?_) (fun x hx => ?_)
  · rw [ramp_rest]
    exact ⟨ramp_current_le hx.1 hx.2.1, hx.2⟩
  · have hcurrent := ramp_current_le hx.1 hx.2
    rw [ramp_rest]
    exact ⟨hcurrent, hx.2⟩

end Sys2Proof.Machine
end

section
/-! SUPPORT. Timers, seats and cue sets in order, and the writes that keep them so (R84, R91, R154, R161). -/

namespace Sys2Proof.Machine

open Sys2Proof

theorem timer_counted {t : Timer} (h : t.InOrder) (below : Bool) : (t.counted below).InOrder := by
  obtain ⟨hload, hcount, hidle⟩ := h
  unfold Timer.counted
  split
  next hexpires =>
    have hrunning : t.state = .running := by
      simp only [Timer.expires, Timer.counts, Bool.and_eq_true, beq_iff_eq] at hexpires
      exact hexpires.1.1
    split
    · refine ⟨hload, hload.2, ?_⟩
      rw [hrunning]
      exact ⟨fun hs => (by cases hs), fun hc => (by have hc : t.load = 0 := hc; omega)⟩
    · exact ⟨hload, Nat.zero_le _, iff_of_true rfl rfl⟩
  next hexpires =>
    split
    next hcounts =>
      simp only [Timer.expires, hcounts, Bool.true_and, decide_eq_true_eq] at hexpires
      have hrunning : t.state = .running := by
        simp only [Timer.counts, Bool.and_eq_true, beq_iff_eq] at hcounts
        exact hcounts.1
      refine ⟨hload, (Nat.sub_le _ _).trans hcount, ?_⟩
      rw [hrunning]
      exact ⟨fun hs => (by cases hs), fun hc => (by have hc : t.count - 1 = 0 := hc; omega)⟩
    · exact ⟨hload, hcount, hidle⟩

theorem timer_started {t : Timer} (h : t.InOrder) : Timer.InOrder { t with state := .running, count := t.load } := by
  have hload := h.load
  exact ⟨hload, hload.2, fun hs => (by cases hs), fun hc => (by have hc : t.load = 0 := hc; omega)⟩

theorem timer_stopped {t : Timer} (h : t.InOrder) : t.stopped.InOrder := ⟨h.load, Nat.zero_le _, iff_of_true rfl rfl⟩

theorem timer_loaded {t : Timer} (h : t.InOrder) {load : Nat} (mode : TimerMode) (source : TimerSource) (hne : load ≠ 0)
    (hle : load ≤ 65535) : Timer.InOrder { t with load, mode, source } :=
  ⟨⟨Nat.pos_of_ne_zero hne, hle⟩, h.count, h.idle⟩

/-- The seats' mode write keeps the order: a FIXED seat counts nothing. -/
theorem seat_writeMode {r : SeatRecord} (h : r.InOrder) (m : SeatMode) : (r.writeMode m).InOrder := by
  obtain ⟨hfade, hhold, hstep, hstable, hfixed, hcross⟩ := h
  unfold SeatRecord.writeMode
  refine ⟨hfade, hhold, hstep, ?_, fun side hm => ?_, hcross⟩
  · dsimp only
    split
    · exact hstable
    · exact Nat.zero_le _
  · have hm : m = .fixed side := hm
    dsimp only
    split
    next hsame => exact hfixed side (hsame ▸ hm)
    · rfl

theorem seat_configured {r : SeatRecord} (h : r.InOrder) (m : SeatMode) {b : SeatBody}
    (hfade : fadeLengths.contains b.fadeLength = true) (hhold : b.returnHold ≤ 255) (hlow : 1 ≤ b.stepSize)
    (hhigh : b.stepSize ≤ 4096) : (r.configured m b).InOrder := by
  have hmode := seat_writeMode h m
  have hlist : b.fadeLength ∈ fadeLengths := by simpa using hfade
  exact ⟨hlist, hhold, ⟨hlow, hhigh⟩, hmode.stable, hmode.fixed, hmode.crossfade⟩

theorem seat_endCall {r : SeatRecord} (h : r.InOrder) : r.endCall.InOrder :=
  ⟨h.fadeLength, h.returnHold, h.stepSize, Nat.zero_le _, fun _ _ => rfl, fun _ hx => by cases hx⟩

theorem seat_advance {r : SeatRecord} (h : r.InOrder) : r.advance.InOrder := by
  refine ⟨h.fadeLength, h.returnHold, h.stepSize, h.stable, h.fixed, fun x hx => ?_⟩
  obtain ⟨y, hy, hnext⟩ := Option.bind_eq_some_iff.mp hx
  split at hnext
  next hlt =>
    cases hnext
    obtain ⟨hvoice, hne, hlow, -, hlength⟩ := h.crossfade y hy
    exact ⟨hvoice, hne, Nat.succ_pos _, hlt, hlength⟩
  · cases hnext

/-- A FIXED seat selects with no count; a PREFER seat's count goes on only while it stays on the other side, below its return
hold (R88 to R90). -/
theorem select_stable (r : SeatRecord) (live : Side → Bool) :
    (∀ side, r.mode = .fixed side → (r.select live).2 = 0) ∧
      ((r.select live).1 = r.voice → (r.select live).2 = 0 ∨ (r.select live).2 ≤ r.returnHold) := by
  cases hmode : r.mode with
  | fixed p =>
    have hzero : (r.select live).2 = 0 := by simp only [SeatRecord.select, hmode]
    exact ⟨fun _ _ => hzero, fun _ => .inl hzero⟩
  | prefer p =>
    refine ⟨fun side hside => (by cases hside), fun htarget => ?_⟩
    simp only [SeatRecord.select, hmode] at htarget ⊢
    split at htarget
    next hboth =>
      rw [if_pos hboth]
      split at htarget
      next hreturn =>
        have hself : p.other = p := by
          rw [hboth.1] at htarget
          exact (Option.some.inj htarget).symm
        cases p <;> cases hself
      next hreturn =>
        rw [if_neg hreturn]
        exact .inr (by dsimp only; omega)
    next hboth =>
      rw [if_neg hboth]
      exact .inl rfl

theorem fade_pos {r : SeatRecord} (h : r.InOrder) : 1 ≤ r.fadeLength := by
  have := h.fadeLength
  simp only [List.mem_cons, List.not_mem_nil, or_false] at this
  omega

theorem seat_selected {r : SeatRecord} (h : r.InOrder) (live : Side → Bool) : (r.selected live).InOrder := by
  obtain ⟨hfixed, hstable⟩ := select_stable r live
  have hhold := h.returnHold
  unfold SeatRecord.selected
  dsimp only
  split
  next htarget =>
    refine ⟨h.fadeLength, hhold, h.stepSize, ?_, hfixed, h.crossfade⟩
    have := hstable htarget
    dsimp only
    omega
  next htarget =>
    refine ⟨h.fadeLength, hhold, h.stepSize, Nat.zero_le _, fun _ _ => rfl, fun x hx => ?_⟩
    have hx : r.switchFade (r.select live).1 = some x := hx
    unfold SeatRecord.switchFade at hx
    split at hx
    next old new hold hnew =>
      have hside : (match r.crossfade with
          | some x => x.new
          | none => old) = old := by
        split
        next y hy =>
          have hvoice := (h.crossfade y hy).1
          rw [hold] at hvoice
          exact (Option.some.inj hvoice).symm
        · rfl
      cases hx
      refine ⟨hnew, fun heq => htarget ?_, le_rfl, fade_pos h, h.fadeLength⟩
      rw [hnew, hold]
      exact congrArg some (heq.symm.trans hside)
    · cases hx

theorem cue_enabled {c : CueSet} {own : Fin 4} (h : c.InOrder own) (enabled : Bool) :
    CueSet.InOrder { c with enabled } own := ⟨h.cell, h.target, h.fireCount, h.chain⟩

theorem cue_counted {c : CueSet} {own : Fin 4} (h : c.InOrder own) (enabled : Bool) {fireCount : Nat}
    (hle : fireCount ≤ 65535) : CueSet.InOrder { c with enabled, fireCount } own := ⟨h.cell, h.target, hle, h.chain⟩

theorem satAdd_le (a n : Nat) : satAdd a n ≤ 65535 := min_le_left _ _

theorem target_le_of_action? {code first second value : Nat} {g : GainName} {v : Nat}
    (h : action? code first second value = some (.setTarget g v)) : v ≤ 32767 := by
  unfold action? at h
  split at h
  case h_2 =>
    split at h
    next hle =>
      obtain ⟨name, -, heq⟩ := Option.map_eq_some_iff.mp h
      cases heq
      exact hle
    · cases h
  case h_9 => cases h
  all_goals
    split at h
    · simp [Option.bind_eq_some_iff] at h
    · cases h

/-- The definition that SET CUE writes is in order. -/
theorem cue_of_set? {b : CueBody} {j : Fin 4} {c : CueSet} (h : b.set? j = some c) (hcell : c.action.namesFixed = false) :
    c.InOrder j := by
  unfold CueBody.set? at h
  obtain ⟨cause, -, h⟩ := Option.bind_eq_some_iff.mp h
  obtain ⟨action, haction, h⟩ := Option.bind_eq_some_iff.mp h
  obtain ⟨rep, -, h⟩ := Option.bind_eq_some_iff.mp h
  obtain ⟨chain, hchain, h⟩ := Option.bind_eq_some_iff.mp h
  split at h
  · cases h
    refine ⟨hcell, fun g v hv => target_le_of_action? (haction.trans (congrArg some hv)), Nat.zero_le _, ?_⟩
    unfold chain? at hchain
    split at hchain
    next hmembers =>
      cases hchain
      simpa using fun hmem => (hmembers.2 _ hmem).2 rfl
    · cases hchain
  · cases h

end Sys2Proof.Machine
end

section
/-! PROOFS. Gains, timers, seats and cue sets in their ranges, kept by every step (chapters 5, 6 and 9). -/

namespace Sys2Proof.Machine

open Sys2Proof

variable {s t : State}

/-- A write that reaches neither gains, timers, seats nor cue sets. -/
theorem recordsInOrder_of_eq (h : s.RecordsInOrder) (hgains : t.gains = s.gains) (htimers : t.timers = s.timers)
    (hseats : t.seats = s.seats) (hcues : t.cues = s.cues) : t.RecordsInOrder := by
  obtain ⟨hg, ht, hfirst, hs, hc⟩ := h
  exact ⟨hgains ▸ hg, htimers ▸ ht, htimers ▸ hfirst, hseats ▸ hs, hcues ▸ hc⟩

theorem recordsInOrder_of_gains (h : s.RecordsInOrder) (hgains : t.gains.InOrder) (htimers : t.timers = s.timers)
    (hseats : t.seats = s.seats) (hcues : t.cues = s.cues) : t.RecordsInOrder :=
  recordsInOrder_of_eq (s := { t with timers := s.timers, seats := s.seats, cues := s.cues })
    ⟨hgains, h.timers, h.firstTimer, h.seats, h.cues⟩ rfl htimers hseats hcues

theorem recordsInOrder_of_timers (h : s.RecordsInOrder) (hgains : t.gains = s.gains)
    (htimers : ∀ i, (t.timers.get i).InOrder) (hfirst : (t.timers.get 0).source = .tick) (hseats : t.seats = s.seats)
    (hcues : t.cues = s.cues) : t.RecordsInOrder :=
  recordsInOrder_of_eq (s := { t with gains := s.gains, seats := s.seats, cues := s.cues })
    ⟨h.gains, htimers, hfirst, h.seats, h.cues⟩ hgains rfl hseats hcues

theorem recordsInOrder_of_seats (h : s.RecordsInOrder) (hgains : t.gains = s.gains) (htimers : t.timers = s.timers)
    (hseats : ∀ i, (t.seats.get i).InOrder) (hcues : t.cues = s.cues) : t.RecordsInOrder :=
  recordsInOrder_of_eq (s := { t with gains := s.gains, timers := s.timers, cues := s.cues })
    ⟨h.gains, h.timers, h.firstTimer, hseats, h.cues⟩ hgains htimers rfl hcues

/-- One timer changes and keeps, if it is timer 0, its source. -/
theorem records_setTimer (h : s.RecordsInOrder) {i : Fin 4} {after : Timer} (hafter : after.InOrder)
    (hsource : i = 0 → after.source = .tick) : State.RecordsInOrder { s with timers := s.timers.set i after } := by
  refine recordsInOrder_of_timers h rfl (fun j => ?_) ?_ rfl rfl
  · dsimp only
    rw [Bank.get_set]
    split
    · exact hafter
    · exact h.timers j
  · dsimp only
    rw [Bank.get_set]
    split
    next hi => exact hsource hi.symm
    · exact h.firstTimer

theorem records_startTimer (h : s.RecordsInOrder) (i : Fin 4) :
    State.RecordsInOrder { s with timers := startedTimers s.timers i } :=
  records_setTimer h (timer_started (h.timers i)) fun hi => by rw [hi]; exact h.firstTimer

theorem records_stopTimer (h : s.RecordsInOrder) (i : Fin 4) :
    State.RecordsInOrder { s with timers := stoppedTimers s.timers i } :=
  records_setTimer h (timer_stopped (h.timers i)) fun hi => by rw [hi]; exact h.firstTimer

/-- One seat changes. -/
theorem records_onSeat (h : s.RecordsInOrder) (i : Fin 4) {f : SeatRecord → SeatRecord}
    (hf : ∀ r, r.InOrder → (f r).InOrder) : (s.onSeat i f).RecordsInOrder := by
  refine recordsInOrder_of_seats h rfl rfl (fun j => ?_) rfl
  rw [onSeat_seats, Bank.get_set]
  split
  · exact hf _ (h.seats i)
  · exact h.seats j

/-- One cue set changes. -/
theorem records_onCue (h : s.RecordsInOrder) (j : Fin 4) {f : CueSet → CueSet}
    (hf : (f (s.cues.get j)).InOrder j) : (s.onCue j f).RecordsInOrder := by
  refine ⟨h.gains, h.timers, h.firstTimer, h.seats, fun k => ?_⟩
  rw [onCue_cues, Bank.get_set]
  split
  next hk => exact hk ▸ hf
  · exact h.cues k

/-- An action of a cue set in order. -/
theorem records_act (h : s.RecordsInOrder) {a : Action} (htarget : ∀ g v, a = .setTarget g v → v ≤ 32767) :
    (s.act a).RecordsInOrder := by
  cases a with
  | none => exact h
  | setTarget g v =>
    exact recordsInOrder_of_gains h (gains_writeTarget h.gains g (htarget g v rfl) fun _ hr => by cases hr) rfl rfl rfl
  | fade g => exact recordsInOrder_of_gains h (gains_fade h.gains g) rfl rfl rfl
  | cut g => exact recordsInOrder_of_gains h (gains_cut h.gains g) rfl rfl rfl
  | step o d => exact recordsInOrder_of_gains h (gains_stepLevel h.gains o d _) rfl rfl rfl
  | startTimer i => exact records_startTimer h i
  | stopTimer i => exact records_stopTimer h i
  | prefer seat side => exact records_onSeat h seat fun _ hr => seat_writeMode hr _

theorem records_fireSet (h : s.RecordsInOrder) (j : Fin 4) : (s.fireSet j).RecordsInOrder := by
  rcases fireSet_cases s j with ⟨reason, -, heq⟩ | ⟨-, heq⟩ <;> rw [heq]
  · have hdisabled := records_onCue h j (f := fun c => { c with enabled := false }) (cue_enabled (h.cues j) false)
    exact recordsInOrder_of_eq hdisabled rfl rfl rfl rfl
  · have hacted := records_act h (h.cues j).target
    have hcounted := records_onCue hacted j
      (f := fun c => { c with fireCount := satAdd c.fireCount 1, enabled := c.enabled && c.rep == .always })
      (cue_counted (hacted.cues j) _ (satAdd_le _ 1))
    exact recordsInOrder_of_eq hcounted rfl rfl rfl rfl

theorem records_endCall (h : s.RecordsInOrder) : s.stopEngine.RecordsInOrder where
  gains := gains_endCall h.gains
  timers := h.timers
  firstTimer := h.firstTimer
  seats i := by
    rw [stopEngine_seats, Bank.get_map]
    exact seat_endCall (h.seats i)
  cues := h.cues

theorem records_clearCall (h : s.RecordsInOrder) : s.clearCall.RecordsInOrder where
  gains := gains_endCall h.gains
  timers i := by
    simp only [State.clearCall, Bank.get_map]
    exact timer_stopped (h.timers i)
  firstTimer := by
    simp only [State.clearCall, Bank.get_map]
    exact h.firstTimer
  seats i := by
    simp only [State.clearCall, State.stopEngine, Bank.get_map]
    exact seat_endCall (h.seats i)
  cues j := by
    simp only [State.clearCall, Bank.get_map]
    exact cue_counted (h.cues j) false (Nat.zero_le _)

/-- The gains after reset are in order, the own-voice cells at 0 (R106). -/
theorem gains_atReset : Gains.atReset.InOrder where
  range name x hx := by
    rcases name with ⟨_ | d, _ | t⟩ | (_ | d) <;>
      simp only [Gains.atReset, Gains.get?, Gains.level, Bank.get_fill, Bank.get_ofFn, Option.some.injEq,
        reduceCtorEq] at hx
    case cell.down.voice =>
      rw [← hx]
      by_cases hdt : d = t <;> simp [hdt, Gain.atReset, Gain.InRange]
    all_goals
      rw [← hx]
      simp [Gain.atReset, Gain.InRange]
  ceiling := by decide
  own name x ho hx := by
    rcases name with ⟨_ | d, _ | t⟩ | (_ | d) <;> simp only [GainName.isOwn, Bool.false_eq_true, beq_iff_eq] at ho
    subst ho
    simp only [Gains.atReset, Gains.get?, Bank.get_ofFn, Option.some.injEq, if_true] at hx
    rw [← hx]
    exact ⟨Nat.zero_le _, Nat.zero_le _⟩

theorem records_resetTo (s : State) (phase : Phase) : (s.resetTo phase).RecordsInOrder where
  gains := gains_atReset
  timers i := by
    simp only [State.resetTo, State.reset, Bank.get_fill]
    exact ⟨by decide, by decide, by decide⟩
  firstTimer := rfl
  seats i := by
    simp only [State.resetTo, State.reset, Bank.get_fill]
    exact ⟨by decide, by decide, by decide, by decide, fun _ hm => (by cases hm),
      fun _ hx => by cases hx⟩
  cues j := by
    simp only [State.resetTo, State.reset, Bank.get_fill]
    exact ⟨rfl, fun _ _ ha => (by cases ha), Nat.zero_le _, by simp [CueSet.atReset]⟩

theorem records_tickTimers (e : Event) (h : e.st.RecordsInOrder) : e.tickTimers.st.RecordsInOrder := by
  have hget : ∀ i, e.tickTimers.st.timers.get i = (e.st.timers.get i).counted (belowDue e.st.timers i) := fun i =>
    Bank.get_mapIdx _ _ i
  refine recordsInOrder_of_timers h rfl (fun i => ?_) ?_ rfl rfl
  · rw [hget]
    exact timer_counted (h.timers i) _
  · rw [hget]
    refine Eq.trans ?_ h.firstTimer
    unfold Timer.counted
    split
    · split <;> rfl
    · split <;> rfl

theorem startPass_seats (e : Event) (i : Fin 4) :
    e.startPass.st.seats.get i = (e.st.seats.get i).selected (liveIn (passLinks e.primedSlots) i) := by
  have hfar (s : State) : s.takeFarEnd.seats = s.seats := by rw [takeFarEnd_rest]
  simp only [Event.startPass, Event.primedSlots, onState_st, hfar, Event.selectVoices, Bank.get_mapIdx]
  rfl

/-- Every operation keeps gains, timers, seats and cue sets in order. -/
theorem records_kept : Kept State.RecordsInOrder where
  resetTo s phase _ := records_resetTo s phase
  startUp _ _ h := recordsInOrder_of_eq h rfl rfl rfl rfl
  ready _ _ h := recordsInOrder_of_eq h rfl rfl rfl rfl
  beginTransaction _ h := recordsInOrder_of_eq h rfl rfl rfl rfl
  shiftByte s b h := by rw [shiftByte_rest]; exact recordsInOrder_of_eq h rfl rfl rfl rfl
  endTransaction s h := by rw [endTransaction_rest]; exact recordsInOrder_of_eq h rfl rfl rfl rfl
  clockIn _ _ h := recordsInOrder_of_eq h rfl rfl rfl rfl
  waiting _ h := recordsInOrder_of_eq h rfl rfl rfl rfl
  placeResponse _ _ _ _ _ _ h := recordsInOrder_of_eq h rfl rfl rfl rfl
  mask _ _ h := recordsInOrder_of_eq h rfl rfl rfl rfl
  clearKinds _ _ h := recordsInOrder_of_eq h rfl rfl rfl rfl
  callStart _ _ _ _ h := recordsInOrder_of_eq h rfl rfl rfl rfl
  endCall e h := recordsInOrder_of_eq (records_endCall h) rfl rfl rfl rfl
  clearCall _ h := records_clearCall h
  clearClips _ _ h := recordsInOrder_of_eq h rfl rfl rfl rfl
  setCue _ j _ _ hc hcell h := records_onCue h j (cue_of_set? hc hcell)
  enableCue _ j enabled h := records_onCue h j (cue_enabled (h.cues j) enabled)
  fireSet _ j h := records_fireSet h j
  setGain s g b hrange h := by
    obtain ⟨htarget, hstep⟩ := (Bool.and_eq_true _ _).mp hrange
    refine recordsInOrder_of_gains h (gains_writeTarget h.gains g (by simpa using htarget) fun r hr => ?_) rfl rfl rfl
    simpa [hr] using hstep
  fade _ g h := recordsInOrder_of_gains h (gains_fade h.gains g) rfl rfl rfl
  cut _ g h := recordsInOrder_of_gains h (gains_cut h.gains g) rfl rfl rfl
  stepLevel _ o d amount h := recordsInOrder_of_gains h (gains_stepLevel h.gains o d amount) rfl rfl rfl
  setCeiling _ _ hc h := recordsInOrder_of_gains h (gains_setCeiling h.gains hc) rfl rfl rfl
  admits _ _ _ _ _ _ h := recordsInOrder_of_eq h rfl rfl rfl rfl
  amend _ _ _ _ _ _ _ _ _ _ h := recordsInOrder_of_eq h rfl rfl rfl rfl
  retire _ _ h := recordsInOrder_of_eq h rfl rfl rfl rfl
  setSeat _ i m _ hfade hhold hlow hhigh h :=
    records_onSeat h i fun _ hr => seat_configured hr m hfade hhold hlow hhigh
  loadTimer s i load mode source hne hle hfirst h := by
    refine records_setTimer h (timer_loaded (h.timers i) mode source hne hle) fun hi => ?_
    cases source with
    | tick => rfl
    | cascade => exact absurd ⟨rfl, hi⟩ hfirst
  startTimer _ i h := records_startTimer h i
  stopTimer _ i h := records_stopTimer h i
  countRadio _ _ _ h := recordsInOrder_of_eq h rfl rfl rfl rfl
  takeFrame _ _ _ _ _ _ _ _ h := recordsInOrder_of_eq h rfl rfl rfl rfl
  lose _ _ _ _ _ h := recordsInOrder_of_eq h rfl rfl rfl rfl
  downSent _ h := recordsInOrder_of_eq h rfl rfl rfl rfl
  serve _ _ _ _ _ h := recordsInOrder_of_eq h rfl rfl rfl rfl
  supervise _ h := recordsInOrder_of_eq h rfl rfl rfl rfl
  tickTimers e h := records_tickTimers e h
  tickCounted _ h := recordsInOrder_of_eq h rfl rfl rfl rfl
  testLock e h := by rw [testLock_rest]; exact recordsInOrder_of_eq h rfl rfl rfl rfl
  holdoverCounted _ _ _ h := recordsInOrder_of_eq h rfl rfl rfl rfl
  holdoverBoundary _ h := recordsInOrder_of_eq h rfl rfl rfl rfl
  transferred e x u _ h := by
    rw [transferred_rest]
    exact atCallBoundary_if (fun _ => recordsInOrder_of_eq h rfl rfl rfl rfl)
      (fun _ => recordsInOrder_of_eq h rfl rfl rfl rfl)
  idleFrame e _ h := by rw [idleFrame_rest]; exact recordsInOrder_of_eq h rfl rfl rfl rfl
  completedStages e n _ h := by
    rw [completedStages_rest]
    refine ⟨gains_ramp h.gains, h.timers, h.firstTimer, fun i => ?_, h.cues⟩
    rw [Bank.get_map]
    exact seat_advance (h.seats i)
  startPass e _ h := by
    have hrest := startPass_rest e
    refine recordsInOrder_of_seats h (by rw [hrest]) (by rw [hrest]) (fun i => ?_) (by rw [hrest])
    rw [startPass_seats]
    exact seat_selected (h.seats i) _

/-- Settles O59: every operation keeps gains, timers, seats and cue sets in order, so every step does. -/
theorem everyStepKeepsTheRecordsInOrder : Obligations.EveryStepKeepsTheRecordsInOrder :=
  fun _ _ h hstep => step_kept records_kept (fun _ _ h => recordsInOrder_of_eq h rfl rfl rfl rfl) h hstep

end Sys2Proof.Machine
end

section
/-! SUPPORT. The control link and the receive buffer in order, and the operations that keep them so (R25, R172 to R177). -/

namespace Sys2Proof.Machine

open Sys2Proof

/-- The control link and the receive side of the radio port in order. -/
structure State.ControlInOrder (s : State) : Prop where
  request : ∀ h, s.iface = .executing h → 1 ≤ h.count ∧ h.bytes.length = min h.count 64
  response : ∀ r, s.iface = .responsePending r → r.bytes.length ≤ 128
  taken : ∀ t, s.transaction = .taken t → s.phase = .ready ∧ t.bytes.length = min t.count 64 ∧
    (t.kind = none → t.count = 0)
  reading : ∀ t r, s.transaction = .taken t → t.sends = some r → s.iface = .responsePending r
  receiving : ∀ buffer count, s.reception = .receiving buffer count →
    s.phase = .ready ∧ buffer.length = min count 515

/-- Every set change flag, and the cue-fault flag, shows in its notice (R178, R181). -/
structure State.NoticesInOrder (s : State) : Prop where
  linkChanges : ∀ i, s.linkChanges.get i = true → s.notices.link = true
  seatChanges : ∀ i, s.seatChanges.get i = true → s.notices.seat = true
  cueFault : s.cueFault.isSome = true → s.notices.cue = true

/-- The counters of clipping and of the two ports stop at 65,535 (R46, R128, R153). -/
structure State.CountersInOrder (s : State) : Prop where
  clips : ∀ o, (s.clipOf o).count ≤ 65535
  radio : s.radio.formatErrors ≤ 65535 ∧ s.radio.unmatched ≤ 65535 ∧ s.radio.idleDiscards ≤ 65535 ∧
    s.radio.statusOnly ≤ 65535 ∧ s.radio.framesSent ≤ 65535
  slips : s.pcm.farEndSlips ≤ 65535 ∧ s.pcm.uplinkSlips ≤ 65535

theorem reportsInOrder_iff (s : State) :
    s.ReportsInOrder ↔ s.ControlInOrder ∧ s.NoticesInOrder ∧ s.CountersInOrder := by
  constructor
  · intro h
    exact ⟨⟨h.request, h.response, h.taken, h.reading, h.receiving⟩, ⟨h.linkChanges, h.seatChanges, h.cueFault⟩,
      ⟨h.clips, h.radio, h.slips⟩⟩
  · rintro ⟨hc, hn, hk⟩
    exact
      { request := hc.request, response := hc.response, taken := hc.taken, reading := hc.reading
        receiving := hc.receiving, linkChanges := hn.linkChanges, seatChanges := hn.seatChanges
        cueFault := hn.cueFault, clips := hk.clips, radio := hk.radio, slips := hk.slips }

variable {s t : State}

/-! ## The control link -/

theorem control_of_eq (h : s.ControlInOrder) (hphase : t.phase = s.phase) (hiface : t.iface = s.iface)
    (htransaction : t.transaction = s.transaction) (hreception : t.reception = s.reception) : t.ControlInOrder where
  request held hheld := h.request held (hiface ▸ hheld)
  response r hr := h.response r (hiface ▸ hr)
  taken tr htr := by rw [hphase]; exact h.taken tr (htransaction ▸ htr)
  reading tr r htr hr := by rw [hiface]; exact h.reading tr r (htransaction ▸ htr) hr
  receiving buffer count hb := by rw [hphase]; exact h.receiving buffer count (hreception ▸ hb)

theorem control_resetTo (s : State) (phase : Phase) : (s.resetTo phase).ControlInOrder where
  request _ h := by cases h
  response _ h := by cases h
  taken t h := by
    have h : s.transaction.abandoned = .taken t := h
    cases hs : s.transaction <;> rw [hs] at h <;> cases h
  reading t _ h := by
    have h : s.transaction.abandoned = .taken t := h
    cases hs : s.transaction <;> rw [hs] at h <;> cases h
  receiving buffer count h := by
    have h : s.reception.discarded = .receiving buffer count := h
    cases hs : s.reception <;> rw [hs] at h <;> cases h

/-- Before READY neither a transaction is taken nor a frame received, so a new phase meets none. -/
theorem control_of_phase (h : s.ControlInOrder) (hphase : s.phase ≠ .ready) (phase : Phase) :
    State.ControlInOrder { s with phase } where
  request := h.request
  response := h.response
  taken t ht := absurd (h.taken t ht).1 hphase
  reading := h.reading
  receiving buffer count hb := absurd (h.receiving buffer count hb).1 hphase

theorem control_beginTransaction (h : s.ControlInOrder) : s.beginTransaction.ControlInOrder := by
  have htransaction : s.beginTransaction.transaction =
      if s.isReady then
        .taken { status := s.statusByte, sends := s.iface.response?, kind := none, bytes := [], count := 0 }
      else .ignored := rfl
  refine ⟨h.request, h.response, fun t ht => ?_, fun t r ht hr => ?_, h.receiving⟩ <;> rw [htransaction] at ht <;>
    split at ht
  · cases ht
    exact ⟨(isReady_eq_true s).mp ‹_›, rfl, fun _ => rfl⟩
  · cases ht
  · cases ht
    have hr : s.iface.response? = some r := hr
    change s.iface = _
    cases hi : s.iface <;> rw [hi] at hr <;> cases hr
    rfl
  · cases ht

theorem shiftIn_inOrder {t : TakenTransaction} (hlength : t.bytes.length = min t.count 64) (b : Byte) :
    (t.shiftIn b).bytes.length = min (t.shiftIn b).count 64 ∧ ((t.shiftIn b).kind = none → (t.shiftIn b).count = 0) := by
  unfold TakenTransaction.shiftIn
  split
  · exact ⟨hlength, (fun hk => by cases hk)⟩
  next kind hk =>
    refine ⟨?_, fun hnone => ?_⟩
    · simp only [List.length_take, List.length_append, List.length_cons, List.length_nil, Config.requestCapacity]
      omega
    · rw [hk] at hnone
      cases hnone

@[simp] theorem shiftIn_sends (t : TakenTransaction) (b : Byte) : (t.shiftIn b).sends = t.sends := by
  unfold TakenTransaction.shiftIn
  split <;> rfl

theorem control_shiftByte (h : s.ControlInOrder) (b : Byte) : (s.shiftByte b).ControlInOrder := by
  unfold State.shiftByte
  split
  · exact h
  · exact control_of_eq h rfl rfl rfl rfl
  next t ht =>
    obtain ⟨hphase, hlength, -⟩ := h.taken t ht
    refine ⟨h.request, h.response, fun u hu => ?_, fun u r hu hr => ?_, h.receiving⟩ <;> cases hu
    · exact ⟨hphase, shiftIn_inOrder hlength b⟩
    · exact h.reading t r ht (shiftIn_sends t b ▸ hr)

/-- A transaction that has ended leaves nothing to be in order with. -/
theorem control_ended (h : s.ControlInOrder) : State.ControlInOrder { s with transaction := .idle } :=
  ⟨h.request, h.response, (fun _ ht => by cases ht), (fun _ _ ht => by cases ht), h.receiving⟩

theorem control_acceptWrite {bytes : List Byte} {count : Nat} (h : s.ControlInOrder) (hidle : s.transaction = .idle)
    (hlength : bytes.length = min count 64) : (s.acceptWrite bytes count).ControlInOrder := by
  unfold State.acceptWrite
  split
  · exact h
  next hcount =>
    split
    · refine ⟨fun held hheld => ?_, (fun _ hr => by cases hr), fun t ht => ?_, fun t _ ht => ?_, h.receiving⟩
      · cases hheld
        exact ⟨Nat.pos_of_ne_zero hcount, hlength⟩
      · rw [hidle] at ht
        cases ht
      · rw [hidle] at ht
        cases ht
    · exact control_of_eq h rfl rfl rfl rfl

theorem control_finishRead (h : s.ControlInOrder) (hidle : s.transaction = .idle) (sends : Option Response) (count : Nat) :
    (s.finishRead sends count).ControlInOrder := by
  unfold State.finishRead
  split
  · split
    · refine ⟨(fun _ hheld => by cases hheld), (fun _ hr => by cases hr), fun t ht => ?_, fun t _ ht => ?_, h.receiving⟩ <;>
        rw [hidle] at ht <;> cases ht
    · exact h
  · exact h

theorem control_endTransaction (h : s.ControlInOrder) : s.endTransaction.ControlInOrder := by
  rcases endTransaction_cases s with heq | ⟨t, ht, -, ⟨-, heq⟩ | ⟨-, heq⟩⟩ <;> rw [heq]
  · exact control_ended h
  · exact control_acceptWrite (control_ended h) rfl (h.taken t ht).2.1
  · exact control_finishRead (control_ended h) rfl _ _

theorem control_clockIn (h : s.ControlInOrder) (bytes : List Byte) : (s.clockIn bytes).ControlInOrder := by
  refine ⟨h.request, h.response, h.taken, h.reading, fun buffer count hb => ?_⟩
  unfold State.clockIn at hb
  dsimp only at hb
  split at hb
  · split at hb
    next hready =>
      cases hb
      refine ⟨(isReady_eq_true s).mp hready, ?_⟩
      rw [List.length_take, Config.receiveCapacity, Nat.min_comm]
    · cases hb
  · cases hb
  next begun n hbegun =>
    cases hb
    obtain ⟨hphase, hlength⟩ := h.receiving begun n hbegun
    refine ⟨hphase, ?_⟩
    simp only [List.length_take, List.length_append, Config.receiveCapacity]
    omega

theorem control_waiting (h : s.ControlInOrder) : State.ControlInOrder { s with reception := .waiting } :=
  ⟨h.request, h.response, h.taken, h.reading, (fun _ _ hb => by cases hb)⟩

/-- A response is placed while a request is held, so in no READ that is to send one. -/
theorem control_placeResponse (h : s.ControlInOrder) {held : HeldRequest} (hheld : s.iface = .executing held)
    {r : Response} (hr : r.bytes.length ≤ 128) : (s.placeResponse r).ControlInOrder := by
  refine ⟨(fun _ hx => by cases hx), fun q hq => ?_, h.taken, fun t q ht hq => ?_, h.receiving⟩
  · cases hq
    exact hr
  · have hpending := h.reading t q ht hq
    rw [hheld] at hpending
    cases hpending

end Sys2Proof.Machine
end

section
/-! SUPPORT. Change flags shown by their notices, and counters that stop at 65,535 (R46, R101, R128, R153, R166, R178). -/

namespace Sys2Proof.Machine

open Sys2Proof

variable {s t : State}

/-- The notices that show change flags go up, and the change flags stay. -/
theorem notices_of_more (h : s.NoticesInOrder) (hlinkChanges : t.linkChanges = s.linkChanges)
    (hseatChanges : t.seatChanges = s.seatChanges) (hfault : t.cueFault = s.cueFault)
    (hlink : s.notices.link = true → t.notices.link = true) (hseat : s.notices.seat = true → t.notices.seat = true)
    (hcue : s.notices.cue = true → t.notices.cue = true) : t.NoticesInOrder where
  linkChanges i hi := hlink (h.linkChanges i (hlinkChanges ▸ hi))
  seatChanges i hi := hseat (h.seatChanges i (hseatChanges ▸ hi))
  cueFault hf := hcue (h.cueFault (hfault ▸ hf))

theorem notices_of_eq (h : s.NoticesInOrder) (hlinkChanges : t.linkChanges = s.linkChanges)
    (hseatChanges : t.seatChanges = s.seatChanges) (hfault : t.cueFault = s.cueFault) (hnotices : t.notices = s.notices) :
    t.NoticesInOrder :=
  notices_of_more h hlinkChanges hseatChanges hfault (hnotices ▸ id) (hnotices ▸ id) (hnotices ▸ id)

/-- A raised notice takes none away. -/
theorem get_raise_of_get {f : NoticeFlags} {k j : NoticeKind} (h : f.get j = true) : (f.raise k).get j = true := by
  have hor : (j == k || f.get j) = true := by rw [h, Bool.or_true]
  cases j <;> exact hor

/-- One more notice set, in everything else the same. -/
theorem notices_of_raise {k : NoticeKind} (h : s.NoticesInOrder) (hlinkChanges : t.linkChanges = s.linkChanges)
    (hseatChanges : t.seatChanges = s.seatChanges) (hfault : t.cueFault = s.cueFault)
    (hnotices : t.notices = s.notices.raise k) : t.NoticesInOrder :=
  notices_of_more h hlinkChanges hseatChanges hfault (hnotices ▸ get_raise_of_get (j := .link))
    (hnotices ▸ get_raise_of_get (j := .seat)) (hnotices ▸ get_raise_of_get (j := .cue))

theorem notices_markLink (h : s.NoticesInOrder) (i : Fin 8) : (s.markLink i).NoticesInOrder :=
  ⟨fun _ _ => rfl, fun j hj => get_raise_of_get (j := .seat) (h.seatChanges j hj),
    fun hf => get_raise_of_get (j := .cue) (h.cueFault hf)⟩

theorem notices_stepLink (e : Event) (i : Fin 8) (p : LinkStep) (h : e.st.NoticesInOrder) :
    (e.stepLink i p).st.NoticesInOrder := by
  rw [stepLink_st]
  refine ⟨fun j hj => ?_, h.seatChanges, h.cueFault⟩
  dsimp only at hj ⊢
  rw [Bank.get_set] at hj
  split at hj
  next hji =>
    rcases (Bool.or_eq_true _ _).mp hj with hp | hold
    · rw [hp, Bool.true_or]
    · rw [h.linkChanges i hold, Bool.or_true]
  · rw [h.linkChanges j hj, Bool.or_true]

theorem notices_stepLinks (e : Event) (f : Fin 8 → LinkRecord → LinkStep) (h : e.st.NoticesInOrder) :
    (e.stepLinks f).st.NoticesInOrder := by
  refine ⟨fun i hi => (stepLinks_link e f).mpr ?_, h.seatChanges, h.cueFault⟩
  rcases (stepLinks_linkChanges e f i).mp hi with hold | ⟨r, hr, hchanged⟩
  · exact .inl (h.linkChanges i hold)
  · exact .inr ⟨i, r, hr, hchanged⟩

/-- The change flags of seats go up with the notice SEAT. -/
theorem notices_of_seats (h : s.NoticesInOrder) {p : Fin 4 → SeatRecord → Bool}
    (hlinkChanges : t.linkChanges = s.linkChanges)
    (hseatChanges : t.seatChanges = s.seatChanges.mapIdx fun i b => b || p i (s.seats.get i))
    (hfault : t.cueFault = s.cueFault) (hlink : t.notices.link = s.notices.link)
    (hseat : t.notices.seat = (s.notices.seat || s.seats.any p)) (hcue : t.notices.cue = s.notices.cue) :
    t.NoticesInOrder := by
  refine ⟨fun i hi => ?_, fun i hi => ?_, fun hf => ?_⟩
  · rw [hlink]
    exact h.linkChanges i (hlinkChanges ▸ hi)
  · rw [hseatChanges, Bank.get_mapIdx, Bool.or_eq_true] at hi
    rw [hseat, Bool.or_eq_true, Bank.any_eq_true]
    exact hi.imp (h.seatChanges i) fun hp => ⟨i, hp⟩
  · rw [hcue]
    exact h.cueFault (hfault ▸ hf)

theorem notices_clearKinds (h : s.NoticesInOrder) (kinds : List NoticeKind) : (s.clearKinds kinds).NoticesInOrder := by
  have hflag : ∀ {k : NoticeKind}, s.notices.get k = true → kinds.contains k = false →
      (s.clearKinds kinds).notices.get k = true := by
    intro k hk hc
    have hand : (s.notices.get k && !kinds.contains k) = true := by rw [hk, hc]; rfl
    cases k <;> exact hand
  refine ⟨fun i hi => ?_, fun i hi => ?_, fun hf => ?_⟩
  · simp only [State.clearKinds] at hi
    split at hi
    · simp at hi
    next hc => exact hflag (k := .link) (h.linkChanges i hi) (by simpa using hc)
  · simp only [State.clearKinds] at hi
    split at hi
    · simp at hi
    next hc => exact hflag (k := .seat) (h.seatChanges i hi) (by simpa using hc)
  · simp only [State.clearKinds] at hf
    split at hf
    · cases hf
    next hc => exact hflag (k := .cue) (h.cueFault hf) (by simpa using hc)

theorem notices_of_clear (hlink : ∀ i, s.linkChanges.get i = false) (hseat : ∀ i, s.seatChanges.get i = false)
    (hfault : s.cueFault = none) : s.NoticesInOrder := by
  refine ⟨fun i hi => ?_, fun i hi => ?_, fun hf => ?_⟩
  · simp [hlink] at hi
  · simp [hseat] at hi
  · simp [hfault] at hf

theorem notices_fireSet (h : s.NoticesInOrder) (j : Fin 4) : (s.fireSet j).NoticesInOrder := by
  rcases fireSet_cases s j with ⟨reason, -, heq⟩ | ⟨-, heq⟩
  · rw [heq]
    exact ⟨fun i hi => get_raise_of_get (j := .link) (h.linkChanges i hi),
      fun i hi => get_raise_of_get (j := .seat) (h.seatChanges i hi), fun _ => rfl⟩
  · have hlink := fireSet_linkChanges s j
    have hseat := fireSet_seatChanges s j
    rw [heq] at hlink hseat ⊢
    have hfault : ((s.act (s.cues.get j).action).cueFired j).cueFault = s.cueFault := act_cueFault s _
    have hnotices : ((s.act (s.cues.get j).action).cueFired j).notices =
        if ((s.act (s.cues.get j).action).cues.get j).notify then s.notices.raise .cue else s.notices := by
      rw [← act_notices s (s.cues.get j).action]
      rfl
    split at hnotices
    · exact notices_of_raise h hlink hseat hfault hnotices
    · exact notices_of_eq h hlink hseat hfault hnotices

theorem notices_testLock (e : Event) (h : e.st.NoticesInOrder) : e.testLock.st.NoticesInOrder := by
  by_cases hlost : e.st.LosesClock
  · rw [testLock_of_lost hlost]
    exact notices_of_raise (k := .clock) h rfl rfl rfl rfl
  · rw [testLock_of_kept hlost]
    exact notices_of_eq h rfl rfl rfl rfl

theorem notices_detectLock (e : Event) (h : e.st.NoticesInOrder) : e.detectLock.st.NoticesInOrder := by
  by_cases hback : e.st.pcm.locks = true ∧ e.st.engine = .holdover
  · rw [detectLock_of_back hback.1 hback.2]
    exact notices_of_raise (k := .clock) h rfl rfl rfl rfl
  · rw [detectLock_of_kept hback]
    exact notices_of_eq h rfl rfl rfl rfl

/-! ## Counters -/

theorem counters_of_eq (h : s.CountersInOrder) (huplink : t.uplinkClip = s.uplinkClip) (hdown : t.downClip = s.downClip)
    (hradio : t.radio = s.radio) (hpcm : t.pcm = s.pcm) : t.CountersInOrder where
  clips o := by
    have hclip : t.clipOf o = s.clipOf o := by
      cases o with
      | uplink => exact huplink
      | down d => exact congrArg (fun b : Bank 4 ClipState => b.get d) hdown
    rw [hclip]
    exact h.clips o
  radio := by rw [hradio]; exact h.radio
  slips := by rw [hpcm]; exact h.slips

/-- The slips of a port stop at 65,535 (R153). -/
def PcmPort.SlipsInOrder (p : PcmPort) : Prop := p.farEndSlips ≤ 65535 ∧ p.uplinkSlips ≤ 65535

theorem counters_of_pcm (h : s.CountersInOrder) (huplink : t.uplinkClip = s.uplinkClip) (hdown : t.downClip = s.downClip)
    (hradio : t.radio = s.radio) (hpcm : t.pcm.SlipsInOrder) : t.CountersInOrder :=
  ⟨(counters_of_eq (t := { t with pcm := s.pcm }) h huplink hdown hradio rfl).clips, by rw [hradio]; exact h.radio, hpcm⟩

@[simp] theorem clipOf_mapClips (s : State) (f : Output → ClipState → ClipState) (o : Output) :
    (s.mapClips f).clipOf o = f o (s.clipOf o) := by
  cases o with
  | uplink => rfl
  | down d => exact Bank.get_mapIdx _ _ d

theorem counters_mapClips (h : s.CountersInOrder) {f : Output → ClipState → ClipState}
    (hf : ∀ o c, c.count ≤ 65535 → (f o c).count ≤ 65535) : (s.mapClips f).CountersInOrder :=
  ⟨fun o => by rw [clipOf_mapClips]; exact hf o _ (h.clips o), h.radio, h.slips⟩

theorem judged_count_le {c : ClipState} (h : c.count ≤ 65535) (clips : Bool) : (c.judged clips).count ≤ 65535 := by
  unfold ClipState.judged
  split
  · exact satAdd_le _ 1
  · exact h

theorem counters_countRadio (h : s.CountersInOrder) {f : RadioCounters → RadioCounters} (hf : f ∈ receiveCounts) :
    (s.countRadio f).CountersInOrder := by
  obtain ⟨h1, h2, h3, h4, h5⟩ := h.radio
  refine ⟨h.clips, ?_, h.slips⟩
  simp only [receiveCounts, List.mem_cons, List.not_mem_nil, or_false] at hf
  rcases hf with rfl | rfl | rfl | rfl
  · exact ⟨satAdd_le _ 1, h2, h3, h4, h5⟩
  · exact ⟨h1, satAdd_le _ 1, h3, h4, h5⟩
  · exact ⟨h1, h2, satAdd_le _ 1, h4, h5⟩
  · exact ⟨h1, h2, h3, satAdd_le _ 1, h5⟩

theorem counters_downSent (h : s.CountersInOrder) : s.downSent.CountersInOrder := by
  obtain ⟨h1, h2, h3, h4, -⟩ := h.radio
  exact ⟨h.clips, ⟨h1, h2, h3, h4, satAdd_le _ 1⟩, h.slips⟩

theorem counters_of_zero (hclips : ∀ o, s.clipOf o = ⟨false, 0⟩) (hradio : s.radio = ⟨0, 0, 0, 0, 0⟩)
    (hfar : s.pcm.farEndSlips = 0) (hup : s.pcm.uplinkSlips = 0) : s.CountersInOrder := by
  refine ⟨fun o => ?_, ?_, ?_⟩
  · rw [hclips]
    exact Nat.zero_le _
  · rw [hradio]
    simp
  · rw [hfar, hup]
    simp

theorem slips_afterTick {p : PcmPort} (h : p.SlipsInOrder) : p.afterTick.SlipsInOrder := by
  unfold PcmPort.afterTick
  split
  · exact h
  · split <;> exact h

theorem slips_afterSync {p : PcmPort} (h : p.SlipsInOrder) : p.afterSync.SlipsInOrder := by
  unfold PcmPort.afterSync
  split
  · exact h
  · split <;> exact h

theorem slips_sendUplink {p : PcmPort} (h : p.SlipsInOrder) (ulEn : Bool) : (p.sendUplink ulEn).SlipsInOrder := by
  unfold PcmPort.sendUplink
  split
  · exact h
  · split
    · exact ⟨h.1, satAdd_le _ 1⟩
    · exact h

theorem takeFarEnd_slips_le (p : PcmPort) (x : Sample) :
    ∃ farEnd slips, p.takeFarEnd x = { p with farEnd, farEndSlips := slips } ∧ slips ≤ 65535 :=
  ⟨_, _, rfl, satAdd_le _ _⟩

theorem slips_startUplink {p : PcmPort} (h : p.SlipsInOrder) : p.startUplink.SlipsInOrder := by
  rw [startUplink_rest]
  exact h

theorem slips_activeFrame {p : PcmPort} (h : p.SlipsInOrder) (x : Sample) (ulEn : Bool) :
    (p.activeFrame x ulEn).SlipsInOrder := by
  unfold PcmPort.activeFrame
  obtain ⟨farEnd, slips, hfar, hslips⟩ := takeFarEnd_slips_le p x
  rw [hfar]
  have htaken : PcmPort.SlipsInOrder { p with farEnd, farEndSlips := slips, b := p.b + 1 } := ⟨hslips, h.2⟩
  exact slips_sendUplink (slips_startUplink htaken) ulEn

theorem slips_disposeUplink (h : s.pcm.SlipsInOrder) (row : List Sample) : (s.disposeUplink row).pcm.SlipsInOrder := by
  unfold State.disposeUplink
  split
  · exact ⟨h.1, satAdd_le _ _⟩
  · exact h

theorem slips_takeFarEnd (h : s.pcm.SlipsInOrder) : s.takeFarEnd.pcm.SlipsInOrder := by
  unfold State.takeFarEnd
  split
  · exact ⟨satAdd_le _ _, h.2⟩
  · exact h

theorem counters_testLock (e : Event) (h : e.st.CountersInOrder) : e.testLock.st.CountersInOrder := by
  rw [testLock_rest]
  exact counters_of_pcm h rfl rfl rfl (slips_afterTick h.slips)

theorem counters_detectLock (e : Event) (h : e.st.CountersInOrder) : e.detectLock.st.CountersInOrder := by
  have hport := slips_afterSync (p := e.st.pcm) h.slips
  by_cases hback : e.st.pcm.locks = true ∧ e.st.engine = .holdover
  · rw [detectLock_of_back hback.1 hback.2]
    exact counters_of_pcm h rfl rfl rfl hport
  · rw [detectLock_of_kept hback]
    exact counters_of_pcm h rfl rfl rfl hport

end Sys2Proof.Machine
end

section
/-! PROOFS. The reports of the part in order, from step to step and at reset. -/

namespace Sys2Proof.Machine

open Sys2Proof

variable {s t : State}

/-- All of a state that the order of its reports speaks of. -/
def State.reports (s : State) : Phase × Interface × Transaction × Reception × Bank 8 Bool × Bank 4 Bool ×
    Option CueFault × NoticeFlags × ClipState × Bank 4 ClipState × RadioCounters × PcmPort :=
  (s.phase, s.iface, s.transaction, s.reception, s.linkChanges, s.seatChanges, s.cueFault, s.notices, s.uplinkClip,
    s.downClip, s.radio, s.pcm)

theorem reportsInOrder_of (h : s.ReportsInOrder) (hcontrol : s.ControlInOrder → t.ControlInOrder)
    (hnotices : s.NoticesInOrder → t.NoticesInOrder) (hcounters : s.CountersInOrder → t.CountersInOrder) :
    t.ReportsInOrder := by
  obtain ⟨hc, hn, hk⟩ := (reportsInOrder_iff s).mp h
  exact (reportsInOrder_iff t).mpr ⟨hcontrol hc, hnotices hn, hcounters hk⟩

theorem reportsInOrder_of_eq (h : s.ReportsInOrder) (heq : t.reports = s.reports) : t.ReportsInOrder := by
  simp only [State.reports, Prod.mk.injEq] at heq
  obtain ⟨hphase, hiface, htransaction, hreception, hlinks, hseats, hfault, hnotices, huplink, hdown, hradio, hpcm⟩ := heq
  exact reportsInOrder_of h (fun hc => control_of_eq hc hphase hiface htransaction hreception)
    (fun hn => notices_of_eq hn hlinks hseats hfault hnotices) (fun hk => counters_of_eq hk huplink hdown hradio hpcm)

/-- An operation on the control link or the receive buffer alone. -/
theorem reportsInOrder_of_control (h : s.ReportsInOrder) (hcontrol : s.ControlInOrder → t.ControlInOrder)
    (hlinkChanges : t.linkChanges = s.linkChanges) (hseatChanges : t.seatChanges = s.seatChanges)
    (hfault : t.cueFault = s.cueFault) (hnotices : t.notices = s.notices) (huplink : t.uplinkClip = s.uplinkClip)
    (hdown : t.downClip = s.downClip) (hradio : t.radio = s.radio) (hpcm : t.pcm = s.pcm) : t.ReportsInOrder :=
  reportsInOrder_of h hcontrol (fun hn => notices_of_eq hn hlinkChanges hseatChanges hfault hnotices)
    (fun hk => counters_of_eq hk huplink hdown hradio hpcm)

/-- An operation on change flags and notices alone. -/
theorem reportsInOrder_of_notices (h : s.ReportsInOrder) (hnotices : s.NoticesInOrder → t.NoticesInOrder)
    (hphase : t.phase = s.phase) (hiface : t.iface = s.iface) (htransaction : t.transaction = s.transaction)
    (hreception : t.reception = s.reception) (huplink : t.uplinkClip = s.uplinkClip) (hdown : t.downClip = s.downClip)
    (hradio : t.radio = s.radio) (hpcm : t.pcm = s.pcm) : t.ReportsInOrder :=
  reportsInOrder_of h (fun hc => control_of_eq hc hphase hiface htransaction hreception) hnotices
    (fun hk => counters_of_eq hk huplink hdown hradio hpcm)

/-- An operation on clip state, radio counters and the PCM port alone. -/
theorem reportsInOrder_of_counters (h : s.ReportsInOrder) (hcounters : s.CountersInOrder → t.CountersInOrder)
    (hphase : t.phase = s.phase) (hiface : t.iface = s.iface) (htransaction : t.transaction = s.transaction)
    (hreception : t.reception = s.reception) (hlinkChanges : t.linkChanges = s.linkChanges)
    (hseatChanges : t.seatChanges = s.seatChanges) (hfault : t.cueFault = s.cueFault) (hnotices : t.notices = s.notices) :
    t.ReportsInOrder :=
  reportsInOrder_of h (fun hc => control_of_eq hc hphase hiface htransaction hreception)
    (fun hn => notices_of_eq hn hlinkChanges hseatChanges hfault hnotices) hcounters

theorem reports_resetTo (s : State) (phase : Phase) : (s.resetTo phase).ReportsInOrder := by
  refine (reportsInOrder_iff _).mpr ⟨control_resetTo s phase, ?_, ?_⟩
  · exact notices_of_clear (fun i => Bank.get_fill false i) (fun i => Bank.get_fill false i) rfl
  · refine counters_of_zero (fun o => ?_) rfl rfl rfl
    cases o with
    | uplink => rfl
    | down d => exact Bank.get_fill _ d

theorem reports_endCall (e : Event) (h : e.st.ReportsInOrder) : e.endCall.st.ReportsInOrder := by
  have hlinks (hn : e.st.NoticesInOrder) : e.endCall.st.NoticesInOrder :=
    notices_of_seats (p := fun _ r => r.voice.isSome) (notices_stepLinks e (fun i r => r.endCall i) hn)
      rfl rfl rfl rfl rfl rfl
  exact reportsInOrder_of h (fun hc => control_of_eq hc rfl rfl rfl rfl) hlinks
    (fun hk => counters_of_pcm hk rfl rfl rfl hk.slips)

theorem reports_clearCall (h : s.ReportsInOrder) : s.clearCall.ReportsInOrder := by
  refine reportsInOrder_of h (fun hc => control_of_eq hc rfl rfl rfl rfl) (fun _ => ?_) (fun _ => ?_)
  · exact notices_of_clear (fun i => Bank.get_fill false i) (fun i => Bank.get_fill false i) rfl
  · refine counters_of_zero (fun o => ?_) rfl rfl rfl
    cases o with
    | uplink => rfl
    | down d => exact Bank.get_fill _ d

theorem notices_judgeClips (e : Event) (n : Snapshot) (h : e.st.NoticesInOrder) : (e.judgeClips n).st.NoticesInOrder :=
  notices_of_more h rfl rfl rfl id id id

theorem notices_completedStages (e : Event) (n : Snapshot) (h : e.st.NoticesInOrder) :
    (e.completedStages n).st.NoticesInOrder := by
  have hdisposed : State.NoticesInOrder { e.st.disposeUplink (n.row .uplink) with pass := none } := by
    rw [disposeUplink_rest]
    exact notices_of_eq h rfl rfl rfl rfl
  have hlinks := notices_stepLinks _ (fun i r => r.complete i n)
    (notices_judgeClips (e.onState fun s => { s.disposeUplink (n.row .uplink) with pass := none }) n hdisposed)
  exact notices_of_eq hlinks rfl rfl rfl rfl

theorem counters_completedStages (e : Event) (n : Snapshot) (h : e.st.CountersInOrder) :
    (e.completedStages n).st.CountersInOrder := by
  have hdisposed : State.CountersInOrder { e.st.disposeUplink (n.row .uplink) with pass := none } :=
    counters_of_pcm h (by rw [disposeUplink_rest]) (by rw [disposeUplink_rest]) (by rw [disposeUplink_rest])
      (slips_disposeUplink h.slips _)
  have hjudged := counters_mapClips hdisposed fun o _ hc => judged_count_le hc (n.clips o)
  exact counters_of_eq hjudged rfl rfl rfl rfl

/-- The stages of a pass start on the records and the seats (R50 to R55, R87 to R93). -/
def Event.voicesSelected (e : Event) : Event :=
  ((e.stepLinks fun i r => r.primingTest i).stepLinks fun i r => r.supplyStage i).selectVoices (passLinks e.primedSlots)

theorem startPass_eq (e : Event) : e.startPass = e.voicesSelected.onState fun s =>
    { s.takeFarEnd with pass := some (s.snapshot (passLinks e.primedSlots)) } := rfl

theorem notices_startPass (e : Event) (h : e.st.NoticesInOrder) : e.startPass.st.NoticesInOrder := by
  have hsupplied := notices_stepLinks _ (fun i r => r.supplyStage i) (notices_stepLinks e (fun i r => r.primingTest i) h)
  have hselected : e.voicesSelected.st.NoticesInOrder :=
    notices_of_seats (p := fun i r => r.switches (liveIn (passLinks e.primedSlots) i)) hsupplied rfl rfl rfl rfl rfl rfl
  rw [startPass_eq, onState_st, takeFarEnd_rest]
  exact notices_of_eq hselected rfl rfl rfl rfl

theorem reports_startPass (e : Event) (h : e.st.ReportsInOrder) : e.startPass.st.ReportsInOrder := by
  refine reportsInOrder_of h (fun hc => ?_) (notices_startPass e) (fun hk => ?_)
  · rw [startPass_rest]
    exact control_of_eq hc rfl rfl rfl rfl
  · rw [startPass_rest]
    exact counters_of_pcm hk rfl rfl rfl (slips_takeFarEnd hk.slips)

/-- Every operation keeps the reports in order. -/
theorem reports_kept : Kept State.ReportsInOrder where
  resetTo s phase _ := reports_resetTo s phase
  startUp _ hphase h := reportsInOrder_of_control h (fun hc => control_of_phase hc (by simp [hphase]) _)
    rfl rfl rfl rfl rfl rfl rfl rfl
  ready _ hphase h := reportsInOrder_of_control h (fun hc => control_of_phase hc (by simp [hphase]) _)
    rfl rfl rfl rfl rfl rfl rfl rfl
  beginTransaction _ h := reportsInOrder_of_control h control_beginTransaction rfl rfl rfl rfl rfl rfl rfl rfl
  shiftByte s b h := by
    have hcontrol (hc : s.ControlInOrder) := control_shiftByte hc b
    rw [shiftByte_rest] at hcontrol ⊢
    exact reportsInOrder_of_control h hcontrol rfl rfl rfl rfl rfl rfl rfl rfl
  endTransaction s h := by
    have hcontrol (hc : s.ControlInOrder) := control_endTransaction hc
    rw [endTransaction_rest] at hcontrol ⊢
    exact reportsInOrder_of_control h hcontrol rfl rfl rfl rfl rfl rfl rfl rfl
  clockIn _ bytes h := reportsInOrder_of_control h (fun hc => control_clockIn hc bytes) rfl rfl rfl rfl rfl rfl rfl rfl
  waiting _ h := reportsInOrder_of_control h control_waiting rfl rfl rfl rfl rfl rfl rfl rfl
  placeResponse _ _ _ _ hheld hr h :=
    reportsInOrder_of_control h (fun hc => control_placeResponse hc hheld hr) rfl rfl rfl rfl rfl rfl rfl rfl
  mask _ _ h := reportsInOrder_of_eq h rfl
  clearKinds _ kinds h := reportsInOrder_of_notices h (fun hn => notices_clearKinds hn kinds)
    rfl rfl rfl rfl rfl rfl rfl rfl
  callStart _ _ _ _ h := reportsInOrder_of h (fun hc => control_of_eq hc rfl rfl rfl rfl)
    (fun hn => notices_of_raise (k := .clock) hn rfl rfl rfl rfl) (fun hk => counters_of_pcm hk rfl rfl rfl hk.slips)
  endCall e h := reports_endCall e h
  clearCall _ h := reports_clearCall h
  clearClips _ _ h := reportsInOrder_of_counters h (fun hk => counters_mapClips hk fun _ _ hc => hc)
    rfl rfl rfl rfl rfl rfl rfl rfl
  setCue _ _ _ _ _ _ h := reportsInOrder_of_eq h rfl
  enableCue _ _ _ h := reportsInOrder_of_eq h rfl
  fireSet s j h := reportsInOrder_of_notices h (fun hn => notices_fireSet hn j)
    (fireSet_phase s j) (fireSet_iface s j) (fireSet_transaction s j) (fireSet_reception s j) (fireSet_uplinkClip s j)
    (fireSet_downClip s j) (fireSet_radio s j) (fireSet_pcm s j)
  setGain _ _ _ _ h := reportsInOrder_of_eq h rfl
  fade _ _ h := reportsInOrder_of_eq h rfl
  cut _ _ h := reportsInOrder_of_eq h rfl
  stepLevel _ _ _ _ h := reportsInOrder_of_eq h rfl
  setCeiling _ _ _ h := reportsInOrder_of_eq h rfl
  admits _ i _ _ _ _ h := reportsInOrder_of_notices h
    (fun hn => notices_of_eq (notices_markLink hn i) rfl rfl rfl rfl) rfl rfl rfl rfl rfl rfl rfl rfl
  amend _ _ _ _ _ _ _ _ _ _ h := reportsInOrder_of_eq h rfl
  retire _ i h := reportsInOrder_of_notices h
    (fun hn => notices_of_eq (notices_markLink hn i) rfl rfl rfl rfl) rfl rfl rfl rfl rfl rfl rfl rfl
  setSeat _ _ _ _ _ _ _ _ h := reportsInOrder_of_eq h rfl
  loadTimer _ _ _ _ _ _ _ _ h := reportsInOrder_of_eq h rfl
  startTimer _ _ h := reportsInOrder_of_eq h rfl
  stopTimer _ _ h := reportsInOrder_of_eq h rfl
  countRadio _ _ hf h := reportsInOrder_of_counters h (fun hk => counters_countRadio hk hf)
    rfl rfl rfl rfl rfl rfl rfl rfl
  takeFrame _ i r mute seq samples _ _ h := reportsInOrder_of_notices h
    (fun hn => notices_stepLink _ i (r.takeFrame i mute seq samples) hn) rfl rfl rfl rfl rfl rfl rfl rfl
  lose _ i r _ _ h := reportsInOrder_of_notices h
    (fun hn => notices_stepLink _ i (r.lose i) hn) rfl rfl rfl rfl rfl rfl rfl rfl
  downSent _ h := reportsInOrder_of_counters h counters_downSent rfl rfl rfl rfl rfl rfl rfl rfl
  serve _ _ _ _ _ h := reportsInOrder_of_eq h rfl
  supervise e h := reportsInOrder_of_notices h
    (fun hn => notices_stepLinks e (fun i r => r.supervise i) hn) rfl rfl rfl rfl rfl rfl rfl rfl
  tickTimers _ h := reportsInOrder_of_eq h rfl
  tickCounted _ h := reportsInOrder_of_eq h rfl
  testLock e h := reportsInOrder_of h
    (fun hc => by rw [testLock_rest]; exact control_of_eq hc rfl rfl rfl rfl) (notices_testLock e) (counters_testLock e)
  holdoverCounted _ _ _ h := reportsInOrder_of_eq h rfl
  holdoverBoundary _ h := reportsInOrder_of_eq h rfl
  transferred e x u _ h := by
    have hall : (e.transferred x u).st.ReportsInOrder := reportsInOrder_of h
      (fun hc => by rw [transferred_rest]; exact control_of_eq hc rfl rfl rfl rfl)
      (fun hn => notices_detectLock _ (notices_of_eq hn rfl rfl rfl rfl))
      (fun hk => counters_detectLock _ (counters_of_pcm hk rfl rfl rfl (slips_activeFrame hk.slips x u)))
    exact atCallBoundary_if (fun _ => reportsInOrder_of_counters hall (fun hk => counters_of_pcm hk rfl rfl rfl hk.slips)
      rfl rfl rfl rfl rfl rfl rfl rfl) fun _ => hall
  idleFrame e _ h := reportsInOrder_of h
    (fun hc => by rw [idleFrame_rest]; exact control_of_eq hc rfl rfl rfl rfl)
    (fun hn => notices_detectLock _ (notices_of_eq hn rfl rfl rfl rfl))
    (fun hk => counters_detectLock _ (counters_of_pcm hk rfl rfl rfl hk.slips))
  completedStages e n _ h := reportsInOrder_of h
    (fun hc => by rw [completedStages_rest]; exact control_of_eq hc rfl rfl rfl rfl)
    (notices_completedStages e n) (counters_completedStages e n)
  startPass e _ h := reports_startPass e h

/-- Settles O60: every operation keeps the reports in order, so every step does. -/
theorem everyStepKeepsTheReportsInOrder : Obligations.EveryStepKeepsTheReportsInOrder :=
  fun _ _ h hstep => step_kept reports_kept (fun _ _ h => reportsInOrder_of_eq h rfl) h hstep

/-- Settles O55: the reset state is the one a RESET leaves, and that is in order whatever was before. -/
theorem resetStateIsInOrder : Obligations.ResetStateIsInOrder := by
  have hreset : State.reset.resetTo .startUp = State.reset := rfl
  refine ⟨⟨fun i r hr => ?_, fun i r hr => ?_, fun n hn => ?_⟩, hreset ▸ tableInOrder_resetTo _ _,
    hreset ▸ engine_resetTo _ _, hreset ▸ records_resetTo _ _, hreset ▸ reports_resetTo _ _⟩
  · simp [State.reset] at hr
  · simp [State.reset] at hr
  · cases hn

end Sys2Proof.Machine
end

section
/-! SUPPORT. The bytes of a transaction from its fall to its rise (R172, R174, R177). -/

namespace Sys2Proof.Machine

open Sys2Proof

variable {s : State}

/-- Both transaction rows shift the bytes they name. -/
theorem exec_transaction {row : Shift → Instr} (hrow : row = .writeTransaction ∨ row = .readTransaction) (shift : Shift)
    (s : State) : exec (row shift) s = .next (s.transact shift) := by
  rcases hrow with rfl | rfl <;> rfl

theorem transact_append (s : State) (first rest : List Byte) (ends : Bool) :
    (s.transact ⟨first, false⟩).transact ⟨rest, ends⟩ = s.transact ⟨first ++ rest, ends⟩ := by
  simp [State.transact, List.foldl_append]

theorem shiftBytes_rest (s : State) (bs : List Byte) :
    ∃ transaction sent, bs.foldl State.shiftByte s = { s with transaction, miso := s.miso ++ sent } := by
  induction bs generalizing s with
  | nil => exact ⟨s.transaction, [], by simp⟩
  | cons b bs ih =>
    obtain ⟨transaction, sent, heq⟩ := ih (s.shiftByte b)
    rw [List.foldl_cons, heq]
    unfold State.shiftByte
    split
    · exact ⟨transaction, sent, rfl⟩
    · exact ⟨transaction, s.misoByte :: sent, by simp⟩
    · exact ⟨transaction, s.misoByte :: sent, by simp⟩

theorem transact_ignored (h : s.transaction = .ignored) (mosi : List Byte) (ends : Bool) :
    s.transact ⟨mosi, ends⟩ = s.passedBy mosi.length ends := by
  unfold State.transact
  rw [shiftBytes_ignored s h]
  cases ends
  · rfl
  · simp [State.endTransaction, State.passedBy, h]

theorem endTransaction_idle (h : s.transaction = .idle) : s.endTransaction = s := by
  unfold State.endTransaction
  rw [h]
  dsimp only
  rw [← h]

theorem transact_idle (h : s.transaction = .idle) (mosi : List Byte) (ends : Bool) : s.transact ⟨mosi, ends⟩ = s := by
  unfold State.transact
  rw [shiftBytes_idle s h]
  cases ends
  · rfl
  · exact endTransaction_idle h

/-- A transaction taken, once its type byte and the bytes behind it are shifted. -/
def typedTransaction (status : Byte) (sends : Option Response) (type : Byte) (bytes : List Byte) : TakenTransaction where
  status := status
  sends := sends
  kind := some type
  bytes := bytes.take 64
  count := bytes.length

theorem shiftBytes_began {status : Byte} {sends : Option Response} (h : s.Began status sends) (type : Byte)
    (bytes : List Byte) : (type :: bytes).foldl State.shiftByte s =
      { s with
        transaction := .taken (typedTransaction status sends type bytes)
        miso := s.miso ++ status :: (List.range bytes.length).map fun k =>
          { typedTransaction status sends type bytes with count := k }.sendsNext } := by
  obtain ⟨hready, ht⟩ := h
  have htype : s.shiftByte type = { s with
      transaction := .taken { status, sends, kind := some type, bytes := [], count := 0 }
      miso := s.miso ++ [status] } := by
    simp [State.shiftByte, State.misoByte, TakenTransaction.sendsNext, TakenTransaction.shiftIn, ht, hready, State.isReady]
  rw [List.foldl_cons, htype]
  refine Eq.trans (shiftBytes_taken _ { status, sends, kind := some type, bytes := [], count := 0 } type ?_ ?_ rfl ?_ bytes) ?_
  · exact hready
  · rfl
  · simp
  · simp [typedTransaction, TakenTransaction.sendsNext]

/-- The end of a transaction taken, after its type byte and the bytes behind it. -/
theorem transact_began {status : Byte} {sends : Option Response} (h : s.Began status sends) (type : Byte)
    (bytes : List Byte) : s.transact ⟨type :: bytes, true⟩ =
      let ended : State := { s with
        transaction := .idle
        miso := s.miso ++ status :: (List.range bytes.length).map fun k =>
          { typedTransaction status sends type bytes with count := k }.sendsNext }
      if type = 0x01 then ended.acceptWrite (bytes.take 64) bytes.length
      else if type = 0x02 then ended.finishRead sends bytes.length
      else ended := by
  unfold State.transact
  rw [shiftBytes_began h]
  simp only [State.endTransaction, typedTransaction, if_true, Option.some.injEq]
  rw [whenReady_of_ready]
  exact h.1

/-- MISO sends 0 behind the status byte of anything but a READ with a response to send. -/
theorem sendsNext_zero {status type : Byte} {sends : Option Response} (bytes : List Byte)
    (h : type ≠ 0x02 ∨ sends = none) : ((List.range bytes.length).map fun k =>
      { typedTransaction status sends type bytes with count := k }.sendsNext) = List.replicate bytes.length 0 := by
  rw [List.eq_replicate_iff]
  refine ⟨by simp, fun b hb => ?_⟩
  obtain ⟨k, -, rfl⟩ := List.mem_map.mp hb
  rcases h with htype | rfl
  · exact if_neg htype
  · simp [TakenTransaction.sendsNext, typedTransaction]

/-- The bytes behind the status byte of a READ: the response, and 0 behind it. -/
theorem range_map_getD (bytes : List Byte) (n : Nat) :
    ((List.range n).map fun k => bytes.getD k 0) = bytes.take n ++ List.replicate (n - bytes.length) 0 := by
  refine List.ext_getElem (by simp; omega) fun k hk _ => ?_
  simp only [List.length_map, List.length_range] at hk
  simp only [List.getElem_map, List.getElem_range, List.getElem_append, List.length_take, List.getElem_take,
    List.getElem_replicate, List.getD_eq_getElem?_getD]
  split
  next h => rw [List.getElem?_eq_getElem (by omega), Option.getD_some]
  next h => rw [List.getElem?_eq_none (by omega), Option.getD_none]

theorem acceptWrite_of_idle (h : s.iface = .idle) (bytes : List Byte) {count : Nat} (hcount : count ≠ 0) :
    s.acceptWrite bytes count = { s with iface := .executing { bytes, count }, busy := false } := by
  simp [State.acceptWrite, hcount, h]

theorem acceptWrite_of_busy (h : s.iface ≠ .idle) (bytes : List Byte) {count : Nat} (hcount : count ≠ 0) :
    s.acceptWrite bytes count = { s with busy := true } := by
  unfold State.acceptWrite
  rw [if_neg hcount]
  split
  next hidle => exact absurd hidle h
  next => rfl

theorem beginTransaction_of_not_ready (h : s.phase ≠ .ready) :
    s.beginTransaction = { s with transaction := .ignored, miso := [] } := by
  simp [State.beginTransaction, (isReady_eq_false s).mpr h]

end Sys2Proof.Machine
end

section
/-! PROOFS. The queue, reset and start-up, and transactions (R172 to R177, R183, R184). -/

namespace Sys2Proof.Machine

open Sys2Proof

/-- Settles O1: `step` is the queue's front command, or nothing. -/
theorem theFrontCommandRuns : Obligations.TheFrontCommandRuns := by
  refine ⟨fun c rest s h => ?_, fun s h => ?_⟩
  · simp only [step, h]
  · simp only [step, h]

/-! ## Reset and start-up -/

theorem phases_distinct {p q : Phase} (h : p = q) (hne : q ≠ .ready) : p ≠ .ready := h ▸ hne

theorem abandoned_eq (t : Transaction) : t.abandoned = if t = .idle then .idle else .ignored := by
  cases t <;> rfl

theorem discarded_eq (r : Reception) : r.discarded = if r = .waiting then .waiting else .ignoring := by
  cases r <;> rfl

theorem discarded_ne_receiving (r : Reception) (buffer : List Byte) (count : Nat) :
    r.discarded ≠ .receiving buffer count := by
  cases r <;> simp [Reception.discarded]

theorem abandoned_ne_taken (x : Transaction) (t : TakenTransaction) : x.abandoned ≠ .taken t := by
  cases x <;> simp [Transaction.abandoned]

theorem get?_atReset (name : GainName) : Gains.atReset.get? name =
    if name = .cell .uplink .far then none else some { current := 0, target := resetTarget name, step := 512 } := by
  rcases name with ⟨_ | d, _ | t⟩ | (_ | d)
  · rfl
  · simp [Gains.atReset, Gains.get?, resetTarget, Gain.atReset]
  · simp [Gains.atReset, Gains.get?, resetTarget, Gain.atReset]
  · by_cases hdt : d = t <;> simp [Gains.atReset, Gains.get?, resetTarget, Gain.atReset, hdt]
  · simp [Gains.atReset, Gains.get?, Gains.level, resetTarget, Gain.atReset]
  · simp [Gains.atReset, Gains.get?, Gains.level, resetTarget, Gain.atReset]

/-- A reset puts every block at its reset values. -/
theorem atResetValues_resetTo (s : State) (phase : Phase) : (s.resetTo phase).AtResetValues where
  control := ⟨rfl, rfl, fun t => abandoned_ne_taken s.transaction t⟩
  notices k := by cases k <;> exact ⟨rfl, rfl⟩
  linkChanges i := Bank.get_fill false i
  seatChanges i := Bank.get_fill false i
  slots i := Bank.get_fill none i
  radio := ⟨rfl, rfl, rfl, fun buffer count => discarded_ne_receiving s.reception buffer count⟩
  seats i := Bank.get_fill SeatRecord.atReset i
  gains := get?_atReset
  ceiling := rfl
  engine := ⟨rfl, rfl, rfl, rfl⟩
  clips o := by
    cases o with
    | uplink => rfl
    | down d => exact Bank.get_fill _ d
  pcm := ⟨rfl, rfl, rfl, rfl, rfl, rfl, rfl, rfl, rfl⟩
  timers i := Bank.get_fill Timer.atReset i
  cues j := Bank.get_fill CueSet.atReset j
  cueFault := rfl

theorem reset_eq_resetTo : State.reset = State.reset.resetTo .startUp := rfl

theorem statusByte_of_not_ready {s : State} (h : s.phase ≠ .ready) : s.statusByte = 0 := by
  simp [State.statusByte, (isReady_eq_false s).mpr h]

theorem attn_of_not_ready {s : State} (h : s.phase ≠ .ready) : s.attn = false := by
  simp [State.attn, (isReady_eq_false s).mpr h]

theorem misoByte_of_not_ready {s : State} (h : s.phase ≠ .ready) : s.misoByte = 0 := by
  unfold State.misoByte
  split
  · rw [(isReady_eq_false s).mpr h]
    rfl
  · rfl

/-- Before READY a frame is not received: the port ignores it till PVALID's fall. -/
theorem receive_of_not_ready {s : State} (hphase : s.phase ≠ .ready) (hreception : ∀ b c, s.reception ≠ .receiving b c)
    (bytes : List Byte) (ends : Bool) :
    s.receive bytes ends = { s with reception := if ends then .waiting else .ignoring } := by
  have hin : s.clockIn bytes = { s with reception := .ignoring } := by
    unfold State.clockIn
    cases hr : s.reception with
    | waiting => simp [(isReady_eq_false s).mpr hphase]
    | ignoring => rfl
    | receiving b c => exact absurd hr (hreception b c)
  unfold State.receive
  cases ends
  · exact hin
  · rw [if_pos rfl, hin]
    rfl

theorem pvalidFalls_of_not_ready {s : State} (hphase : s.phase ≠ .ready) :
    s.pvalidFalls = { s with reception := .waiting } := by
  unfold State.pvalidFalls
  dsimp only
  split
  · rw [whenReady_of_not_ready]
    exact hphase
  · rfl

theorem exec_frame {row : List Byte → Bool → Instr} (hrow : row = .audioUp ∨ row = .linkStatus) (bytes : List Byte)
    (ends : Bool) (s : State) : exec (row bytes ends) s = .next (s.receive bytes ends) := by
  rcases hrow with rfl | rfl <;> rfl

/-- Settles O3: a reset leaves the reset values, and in reset nothing is taken. -/
theorem resetPinFallHoldsThePartInReset : Obligations.ResetPinFallHoldsThePartInReset := by
  refine ⟨reset_eq_resetTo ▸ atResetValues_resetTo _ _, fun s h => ?_, fun s => ?_⟩
  · have hphase : s.phase ≠ .ready := phases_distinct h (by decide)
    exact ⟨misoByte_of_not_ready hphase, congrArg Host.Outcome.next (beginTransaction_of_not_ready hphase)⟩
  · have hphase : (s.resetTo .inReset).phase ≠ .ready := by simp
    refine ⟨s.resetTo .inReset, rfl, rfl, atResetValues_resetTo s _, rfl, statusByte_of_not_ready hphase,
      attn_of_not_ready hphase, rfl, rfl, abandoned_eq _, discarded_eq _, rfl, fun x u => rfl, fun row hrow mosi ends => ?_,
      fun row hrow bytes ends => ?_⟩
    · rw [exec_transaction hrow]
      refine congrArg Host.Outcome.next ?_
      split
      next hidle => exact transact_idle (by rw [resetTo_transaction, hidle]; rfl) mosi ends
      next hbusy => exact transact_ignored (by rw [resetTo_transaction, abandoned_eq, if_neg hbusy]) mosi ends
    · rw [exec_frame hrow]
      exact congrArg Host.Outcome.next (receive_of_not_ready hphase (discarded_ne_receiving s.reception) bytes ends)

theorem takeReset_of_holds {s : State} {tag : Byte} (h : s.Holds 0x20 tag []) : s.takeReset = s.resetTo .startUp := by
  obtain ⟨hready, hheld⟩ := h
  unfold State.takeReset
  rw [whenReady_of_ready _ _ hready]
  simp only [hheld]
  rfl

/-- Settles O4: RESET is a reset with start-up begun, and the tick in start-up only ends it. -/
theorem resetRequestAndStartUp : Obligations.ResetRequestAndStartUp := by
  refine ⟨fun s tag h => ?_, fun s h => ?_, fun s h => ?_, fun s h => ?_, fun s h => ?_⟩
  · have hphase : (s.resetTo .startUp).phase ≠ .ready := by simp
    exact ⟨s.resetTo .startUp, congrArg Host.Outcome.next (takeReset_of_holds h), rfl, atResetValues_resetTo s _, rfl,
      statusByte_of_not_ready hphase, attn_of_not_ready hphase, rfl, misoByte_of_not_ready hphase, abandoned_eq _,
      discarded_eq _⟩
  · exact congrArg Host.Outcome.next (if_pos h)
  · have hend : s.endStartUp = { s with phase := .ready } := if_pos h
    refine ⟨congrArg Host.Outcome.next hend, ?_⟩
    change Host.Outcome.next s.tick = _
    simp only [State.tick, h, hend]
  · exact congrArg Host.Outcome.next (if_neg h)
  · exact congrArg Host.Outcome.next (if_neg h)

/-- A request row before READY. -/
theorem takeRequest_of_not_ready {α : Type} {s : State} (h : s.phase ≠ .ready) (code : Byte) (body? : List Byte → Option α)
    (owner : State → α → Reply) : s.takeRequest code body? owner = s :=
  whenReady_of_not_ready s _ h

/-- Before READY MISO sends 0 for every byte of a transaction. -/
theorem shiftBytes_not_ready {s : State} (hphase : s.phase ≠ .ready) (ht : s.transaction ≠ .idle) (bs : List Byte) :
    ∃ transaction, bs.foldl State.shiftByte s =
      { s with transaction, miso := s.miso ++ List.replicate bs.length 0 } := by
  induction bs generalizing s with
  | nil => exact ⟨s.transaction, by simp⟩
  | cons b bs ih =>
    have hshift : ∃ transaction, transaction ≠ .idle ∧
        s.shiftByte b = { s with transaction, miso := s.miso ++ [0] } := by
      unfold State.shiftByte
      rw [misoByte_of_not_ready hphase]
      split
      next hidle => exact absurd hidle ht
      next hignored => exact ⟨s.transaction, ht, rfl⟩
      next t _ => exact ⟨.taken (t.shiftIn b), by simp, rfl⟩
    obtain ⟨first, hfirst, heq⟩ := hshift
    obtain ⟨transaction, hrest⟩ := ih (s := { s with transaction := first, miso := s.miso ++ [0] }) hphase hfirst
    refine ⟨transaction, ?_⟩
    rw [List.foldl_cons, heq, hrest]
    simp [List.replicate_succ]

theorem endTransaction_not_ready {s : State} (hphase : s.phase ≠ .ready) :
    s.endTransaction = { s with transaction := .idle } := by
  unfold State.endTransaction
  dsimp only
  split
  · rw [whenReady_of_not_ready]
    exact hphase
  · rfl

/-- What a request row takes: the held request of its code, by the owner of that code. -/
theorem exec_request {c : Instr} {code : Byte} (h : requestCode c = some code) (hreset : c ≠ .reset) :
    ∃ (α : Type) (body? : List Byte → Option α) (owner : State → α → Reply),
      (∀ s, exec c s = .next (s.takeRequest code body? owner)) ∧ ∀ b, (body? b).isSome = bodyFits code.toNat b := by
  cases c <;> cases h
  case reset => exact absurd rfl hreset
  all_goals exact ⟨_, _, _, fun _ => rfl, fun _ => rfl⟩

/-- No row's own event is due before READY. -/
theorem due_of_not_ready {s : State} (h : s.phase ≠ .ready) (b : Bool) (t : State) :
    (if (s.isReady && b) = true then t else s) = s := by
  simp [(isReady_eq_false s).mpr h]

/-- Settles O5: every row but those named goes through `whenReady` or a test of READY. -/
theorem nothingIsTakenBeforeReady : Obligations.NothingIsTakenBeforeReady := by
  intro s h
  have hready := (isReady_eq_false s).mpr h
  refine ⟨fun c hfall hrise hend htick hcs hports => ?_, fun row hrow bytes => ⟨?_, fun hwait => ?_⟩,
    fun row hrow mosi ends ht => ?_⟩
  · cases hcode : requestCode c with
    | some code =>
      by_cases hreset : c = .reset
      · rw [hreset]
        exact congrArg Host.Outcome.next (whenReady_of_not_ready s _ h)
      · obtain ⟨α, body?, owner, hexec, -⟩ := exec_request hcode hreset
        rw [hexec, takeRequest_of_not_ready h]
    | none =>
      cases c with
      | resetNFall => exact absurd rfl hfall
      | resetNRise => exact absurd rfl hrise
      | startUpEnd => exact absurd rfl hend
      | tick => exact absurd rfl htick
      | csNFall => exact absurd rfl hcs
      | writeTransaction shift => exact absurd rfl (hports shift.mosi shift.ends).1
      | readTransaction shift => exact absurd rfl (hports shift.mosi shift.ends).2.1
      | audioUp bytes ends => exact absurd rfl (hports bytes ends).2.2.1
      | linkStatus bytes ends => exact absurd rfl (hports bytes ends).2.2.2
      | supervisionExpiry => exact congrArg Host.Outcome.next (due_of_not_ready h _ _)
      | timerExpiry => exact congrArg Host.Outcome.next (due_of_not_ready h _ _)
      | lock => exact congrArg Host.Outcome.next (due_of_not_ready h _ _)
      | holdoverPassBoundary =>
        have hdue : s.holdoverBoundaryDue = false := by simp [State.holdoverBoundaryDue, hready]
        exact congrArg Host.Outcome.next (if_neg (by simp [hdue]))
      | automaticCallEnd =>
        have hdue : s.callEndDue = false := by simp [State.callEndDue, hready]
        exact congrArg Host.Outcome.next (if_neg (by simp [hdue]))
      | callPassBoundary =>
        have hdue : s.callBoundaryDue = false := by simp [State.callBoundaryDue, hready]
        exact congrArg Host.Outcome.next (if_neg (by simp [hdue]))
      | frameSync => exact congrArg Host.Outcome.next (whenReady_of_not_ready s _ h)
      | passCompletion => exact congrArg Host.Outcome.next (whenReady_of_not_ready s _ h)
      | audioDownComplete => exact congrArg Host.Outcome.next (whenReady_of_not_ready s _ h)
      | framingRefusal => exact congrArg Host.Outcome.next (whenReady_of_not_ready s _ h)
      | _ => cases hcode
  · rw [exec_frame hrow]
    exact congrArg Host.Outcome.next (pvalidFalls_of_not_ready (s := s.clockIn bytes) h)
  · rw [exec_frame hrow, receive_of_not_ready h (fun b c hb => by rw [hwait] at hb; cases hb)]
    rfl
  · rw [exec_transaction hrow]
    obtain ⟨transaction, heq⟩ := shiftBytes_not_ready h ht mosi
    cases ends
    · exact ⟨transaction, by simp, congrArg Host.Outcome.next heq⟩
    · refine ⟨.idle, fun _ => rfl, congrArg Host.Outcome.next ?_⟩
      simp only [State.transact, heq, if_true]
      exact endTransaction_not_ready h

/-! ## Transactions -/

theorem topNotice_le (s : State) : s.topNotice ≤ 6 := by
  unfold State.topNotice
  split
  next k _ => cases k <;> decide
  · exact Nat.zero_le 6

theorem responsePending_eq_true (s : State) : s.responsePending = true ↔ ∃ r, s.iface = .responsePending r := by
  unfold State.responsePending
  split
  next r hr => exact ⟨fun _ => ⟨r, hr⟩, fun _ => rfl⟩
  next hnone => exact ⟨(fun h => by cases h), fun ⟨r, hr⟩ => absurd hr (hnone r)⟩

theorem response?_eq (i : Interface) : i.response? = match i with
    | .responsePending r => some r
    | _ => none := by
  cases i <;> rfl

/-- The status byte as the catalogue lays it out: two bits above a third, two bits 0, and a code of three bits. -/
theorem statusBits : ∀ (pending busy : Bool) (top : Fin 7),
    let b := BitVec.ofNat 8 (128 + (if pending then 64 else 0) + (if busy then 32 else 0) + top.val)
    b.getLsbD 7 = true ∧ b.getLsbD 6 = pending ∧ b.getLsbD 5 = busy ∧ b.getLsbD 4 = false ∧ b.getLsbD 3 = false ∧
      b.toNat % 8 = top.val := by
  decide

theorem beginTransaction_began {s : State} (h : s.phase = .ready) :
    s.beginTransaction.Began s.statusByte s.iface.response? := by
  refine ⟨h, ?_⟩
  simp [State.beginTransaction, (isReady_eq_true s).mpr h]

/-- Settles O6: the fall fixes the status byte, whose bits are read off the sum it is made of. -/
theorem transactionStartFixesTheStatusByte : Obligations.TransactionStartFixesTheStatusByte := by
  intro s pending
  refine ⟨fun h => ⟨statusByte_of_not_ready h, congrArg Host.Outcome.next (beginTransaction_of_not_ready h)⟩, fun h => ?_⟩
  have hready := (isReady_eq_true s).mpr h
  have hbegan := beginTransaction_began h
  have hstatus : s.statusByte = BitVec.ofNat 8
      (128 + (if s.responsePending then 64 else 0) + (if s.busy then 32 else 0) + s.topNotice) := if_pos hready
  obtain ⟨h7, h6, h5, h4, h3, htop⟩ := statusBits s.responsePending s.busy ⟨s.topNotice, Nat.lt_succ_of_le (topNotice_le s)⟩
  rw [← hstatus] at h7 h6 h5 h4 h3 htop
  refine ⟨s.statusByte, s.beginTransaction, rfl, ?_, ?_, rfl, h7, ?_, h5, h4, h3, htop⟩
  · rw [response?_eq] at hbegan
    exact hbegan
  · simp [State.misoByte, hbegan.2, hbegan.1, State.isReady, TakenTransaction.sendsNext]
  · rw [h6]
    exact responsePending_eq_true s

theorem endTransaction_of_typeless {s : State} {status : Byte} {sends : Option Response} (h : s.Began status sends) :
    s.endTransaction = { s with transaction := .idle } := by
  obtain ⟨hready, ht⟩ := h
  simp only [State.endTransaction, ht]
  rw [whenReady_of_ready]
  · simp
  · exact hready

/-- Settles O7: the bytes of a transaction go by, and its end is judged by its type byte. -/
theorem writeTransactionHoldsOrDropsTheRequest : Obligations.WriteTransactionHoldsOrDropsTheRequest := by
  intro row hrow
  simp only [exec_transaction hrow]
  refine ⟨fun s mosi ends h => congrArg Host.Outcome.next (transact_idle h mosi ends),
    fun s mosi ends h => congrArg Host.Outcome.next (transact_ignored h mosi ends), fun s mosi => ?_,
    fun s t first rest ends h => ?_, fun s status sends h => ⟨?_, fun type bytes hwrite hread => ?_, ?_, fun bytes hbytes => ?_⟩⟩
  · obtain ⟨transaction, sent, heq⟩ := shiftBytes_rest s mosi
    exact ⟨transaction, sent, congrArg Host.Outcome.next heq⟩
  · cases h
    exact congrArg Host.Outcome.next (transact_append s first rest ends)
  · exact congrArg Host.Outcome.next (endTransaction_of_typeless h)
  · rw [transact_began h, if_neg hwrite, if_neg hread, sendsNext_zero bytes (.inl hread)]
  · rw [transact_began h, if_pos rfl, sendsNext_zero [] (.inl (by decide))]
    rfl
  · have hcount : bytes.length ≠ 0 := by simpa using hbytes
    rw [transact_began h, if_pos rfl, sendsNext_zero bytes (.inl (by decide))]
    refine ⟨fun hidle => congrArg Host.Outcome.next (acceptWrite_of_idle ?_ _ hcount),
      fun hbusy => congrArg Host.Outcome.next (acceptWrite_of_busy ?_ _ hcount)⟩
    · exact hidle
    · exact hbusy

/-- Settles O8: behind the status byte a READ sends the response and then 0. -/
theorem readTransactionReadsAWholeResponse : Obligations.ReadTransactionReadsAWholeResponse := by
  refine ⟨⟨rfl, rfl, rfl, rfl, rfl, rfl, rfl, rfl, rfl, rfl, rfl⟩, fun row hrow s status ignored => ?_⟩
  simp only [exec_transaction hrow]
  refine ⟨fun h => ?_, fun r h => ?_⟩
  · rw [transact_began h, if_neg (by decide), if_pos rfl, sendsNext_zero ignored (.inr rfl)]
    rfl
  · have hsent : ((List.range ignored.length).map fun k =>
        { typedTransaction status (some r) 0x02 ignored with count := k }.sendsNext) =
        r.bytes.take ignored.length ++ List.replicate (ignored.length - r.bytes.length) 0 :=
      range_map_getD r.bytes ignored.length
    refine ⟨rfl, fun hshort => ?_, fun hwhole => ?_⟩
    · rw [transact_began h, if_neg (by decide), if_pos rfl, hsent, Nat.sub_eq_zero_of_le (Nat.le_of_lt hshort)]
      simp [State.finishRead, Nat.not_le.mpr hshort]
    · rw [transact_began h, if_neg (by decide), if_pos rfl, hsent, List.take_of_length_le hwhole]
      simp [State.finishRead, hwhole]

/-! ## Framing -/

/-- Settles O9: FRAMING REFUSAL answers exactly what is wrongly framed. -/
theorem wrongFramingIsAnsweredWithBadRequest : Obligations.WrongFramingIsAnsweredWithBadRequest := by
  intro s h hready hheld
  have hrefuse : exec .framingRefusal s = .next (if h.wellFramed then s else s.placeResponse h.refusal) := by
    refine congrArg Host.Outcome.next ?_
    unfold State.refuseFraming
    rw [whenReady_of_ready _ _ hready]
    simp only [hheld]
  refine ⟨fun hwell => ?_, fun hwrong => ?_⟩
  · rw [hrefuse, if_pos hwell]
  · rw [hrefuse, hwrong, if_neg (by simp)]
    simp [State.placeResponse, State.responded, HeldRequest.refusal, HeldRequest.code?, HeldRequest.tag?]

theorem takeRequest_of_other {α : Type} {s : State} {code : Byte} (body? : List Byte → Option α) (owner : State → α → Reply)
    (hready : s.phase = .ready) (h : ∀ h, s.iface = .executing h → h.bytes[1]? ≠ some code) :
    s.takeRequest code body? owner = s := by
  unfold State.takeRequest
  rw [whenReady_of_ready _ _ hready]
  split
  next held hheld => exact if_neg (h held hheld)
  · rfl

/-- A request held with its owner's code and wrong framing is refused. -/
theorem takeRequest_of_wrong {α : Type} {s : State} {code : Byte} {body? : List Byte → Option α}
    (owner : State → α → Reply) {h : HeldRequest} (hready : s.phase = .ready) (hheld : s.iface = .executing h)
    (hcode : h.bytes[1]? = some code) (hwrong : h.wellFramed = false)
    (hfits : ∀ b, (body? b).isSome = bodyFits code.toNat b) : s.takeRequest code body? owner = s.placeResponse h.refusal := by
  have hcode' : h.code? = some code := hcode
  have hnone : (h.framed.bind fun m => (body? m.2).map fun b => (m.1, b)) = none := by
    cases hf : h.framed with
    | none => rfl
    | some m =>
      have hbody : (body? m.2).isSome = false := by
        rw [hfits, ← hwrong]
        simp only [HeldRequest.wellFramed, hcode', hf]
      simp only [Option.isSome_eq_false_iff, Option.isNone_iff_eq_none] at hbody
      rw [Option.bind_some, hbody, Option.map_none]
  unfold State.takeRequest
  rw [whenReady_of_ready _ _ hready]
  simp only [hheld, hcode', hnone, if_true]

theorem placeResponse_refusal {s : State} {h : HeldRequest} {code : Byte} (hcode : h.bytes[1]? = some code) :
    s.placeResponse h.refusal = s.responded code (h.bytes.getD 2 0) .badRequest [] := by
  simp [State.placeResponse, State.responded, HeldRequest.refusal, HeldRequest.code?, HeldRequest.tag?, hcode]

/-- Settles O11: a row looks at its own code first and at the framing next. -/
theorem requestRowsTakeOnlyTheirOwnRequest : Obligations.RequestRowsTakeOnlyTheirOwnRequest := by
  intro c code hc s hready
  by_cases hreset : c = .reset
  · subst hreset
    cases hc
    have htake : ∀ t, s.takeReset = t → exec .reset s = .next t := fun t ht => congrArg Host.Outcome.next ht
    refine ⟨fun hother => htake _ ?_, fun h hheld hcode hwrong => htake _ ?_⟩ <;> unfold State.takeReset <;>
      rw [whenReady_of_ready _ _ hready]
    · split
      next held hheld => exact if_neg (hother held hheld)
      · rfl
    · have hcode' : h.code? = some 0x20 := hcode
      simp only [hheld, hcode', hwrong, if_true]
      exact placeResponse_refusal hcode
  · obtain ⟨α, body?, owner, hexec, hfits⟩ := exec_request hc hreset
    simp only [hexec]
    refine ⟨fun hother => congrArg Host.Outcome.next (takeRequest_of_other body? owner hready hother),
      fun h hheld hcode hwrong => congrArg Host.Outcome.next ?_⟩
    rw [takeRequest_of_wrong owner hready hheld hcode hwrong hfits, placeResponse_refusal hcode]

end Sys2Proof.Machine
end

section
/-! SUPPORT. The lengths that request bodies may have, sets named in a body, and flags as bits (section 11.2). -/

namespace Sys2Proof.Machine

open Sys2Proof

/-! ## Body lengths -/

theorem bodyFits_of_above {v : Nat} (h : 32 < v) (b : List Byte) : bodyFits v b = false := by
  obtain ⟨k, rfl⟩ : ∃ k, v = k + 33 := ⟨v - 33, by omega⟩
  simp [bodyFits]

theorem bodyNone_isSome (b : List Byte) : (bodyNone b).isSome = true ↔ b.length = 0 := by
  rcases b with _ | ⟨_, _⟩ <;> simp [bodyNone]

theorem bodyByte_isSome (b : List Byte) : (bodyByte b).isSome = true ↔ b.length = 1 := by
  rcases b with _ | ⟨_, _ | ⟨_, _⟩⟩ <;> simp [bodyByte]

theorem bodyWord_isSome (b : List Byte) : (bodyWord b).isSome = true ↔ b.length = 2 := by
  rcases b with _ | ⟨_, _ | ⟨_, _ | ⟨_, _⟩⟩⟩ <;> simp [bodyWord]

theorem bodyPair_isSome (b : List Byte) : (bodyPair b).isSome = true ↔ b.length = 2 := by
  rcases b with _ | ⟨_, _ | ⟨_, _ | ⟨_, _⟩⟩⟩ <;> simp [bodyPair]

theorem bodyLoad_isSome (b : List Byte) : (bodyLoad b).isSome = true ↔ b.length = 5 := by
  rcases b with _ | ⟨_, _ | ⟨_, _ | ⟨_, _ | ⟨_, _ | ⟨_, _ | ⟨_, _⟩⟩⟩⟩⟩⟩ <;> simp [bodyLoad]

theorem bodySetGain_isSome (b : List Byte) : (bodySetGain b).isSome = true ↔ b.length = 4 ∨ b.length = 6 := by
  rcases b with _ | ⟨_, _ | ⟨_, _ | ⟨_, _ | ⟨_, _ | ⟨_, _ | ⟨_, _ | ⟨_, _⟩⟩⟩⟩⟩⟩⟩ <;> simp [bodySetGain]

theorem bodySeat_isSome (b : List Byte) : (bodySeat b).isSome = true ↔ b.length = 7 := by
  rcases b with _ | ⟨_, _ | ⟨_, _ | ⟨_, _ | ⟨_, _ | ⟨_, _ | ⟨_, _ | ⟨_, _ | ⟨_, _⟩⟩⟩⟩⟩⟩⟩⟩ <;> simp [bodySeat]

/-- Entries are of three bytes each. -/
theorem bodyEntries_of_length {k : Nat} {b : List Byte} (h : b.length = 3 * k) :
    ∃ es, bodyEntries b = some es ∧ es.length = k := by
  induction k generalizing b with
  | zero => exact ⟨[], by rw [List.length_eq_zero_iff.mp h]; rfl, rfl⟩
  | succ k ih =>
    rcases b with _ | ⟨f, _ | ⟨lo, _ | ⟨hi, rest⟩⟩⟩ <;> simp only [List.length_cons, List.length_nil] at h
    · omega
    · omega
    · omega
    · obtain ⟨es, hes, hlength⟩ := ih (b := rest) (by omega)
      exact ⟨(f.toNat, word16 lo hi) :: es, by simp [bodyEntries, hes], by simp [hlength]⟩

theorem length_of_bodyEntries {b : List Byte} {es : List (Nat × Nat)} (h : bodyEntries b = some es) :
    b.length = 3 * es.length := by
  induction b using bodyEntries.induct generalizing es with
  | case1 =>
    cases h
    rfl
  | case2 f lo hi rest ih =>
    simp only [bodyEntries, Option.map_eq_some_iff] at h
    obtain ⟨es', hes, rfl⟩ := h
    simp only [List.length_cons, ih hes]
    omega
  | case3 b h1 h2 => simp [bodyEntries] at h

theorem bodyAdmit_isSome (b : List Byte) : (bodyAdmit b).isSome = true ↔ ∃ k ≤ 8, b.length = 5 + 3 * k := by
  rcases b with _ | ⟨lo, _ | ⟨hi, _ | ⟨seat, _ | ⟨side, _ | ⟨block, rest⟩⟩⟩⟩⟩
  case cons.cons.cons.cons.cons =>
    simp only [bodyAdmit, List.length_cons]
    constructor
    · cases hes : bodyEntries rest with
      | none => simp
      | some es =>
        have hlength := length_of_bodyEntries hes
        by_cases hle : es.length ≤ 8
        · exact fun _ => ⟨es.length, hle, by omega⟩
        · simp [hle]
    · rintro ⟨k, hk, hlength⟩
      obtain ⟨es, hes, rfl⟩ := bodyEntries_of_length (k := k) (b := rest) (by omega)
      simp [hes, hk]
  all_goals
    simp only [bodyAdmit, List.length_cons, List.length_nil]
    simp
    omega

theorem bodyAmend_isSome (b : List Byte) : (bodyAmend b).isSome = true ↔ ∃ k, 1 ≤ k ∧ k ≤ 11 ∧ b.length = 1 + 3 * k := by
  rcases b with _ | ⟨i, rest⟩
  · simp [bodyAmend]
    omega
  · simp only [bodyAmend, List.length_cons]
    constructor
    · cases hes : bodyEntries rest with
      | none => simp
      | some es =>
        have hlength := length_of_bodyEntries hes
        by_cases hle : 1 ≤ es.length ∧ es.length ≤ 11
        · exact fun _ => ⟨es.length, hle.1, hle.2, by omega⟩
        · simp [hle]
    · rintro ⟨k, hlow, hhigh, hlength⟩
      obtain ⟨es, hes, rfl⟩ := bodyEntries_of_length (k := k) (b := rest) (by omega)
      simp [hes, hlow, hhigh]

theorem bodyCue_isSome (b : List Byte) : (bodyCue b).isSome = true ↔
    11 ≤ b.length ∧ b.length ≤ 14 ∧ (b.getD 10 0).toNat = b.length - 11 := by
  unfold bodyCue
  split
  next _ _ _ _ _ _ _ _ _ _ count members =>
    simp only [List.length_cons]
    split
    next h => simp; omega
    next h => simp; omega
  next hshort =>
    have hlt : b.length < 11 := by
      by_contra hlong
      rcases b with _ | ⟨_, _ | ⟨_, _ | ⟨_, _ | ⟨_, _ | ⟨_, _ | ⟨_, _ | ⟨_, _ | ⟨_, _ | ⟨_, _ | ⟨_, _ | ⟨_, _⟩⟩⟩⟩⟩⟩⟩⟩⟩⟩⟩
      case cons.cons.cons.cons.cons.cons.cons.cons.cons.cons.cons => exact hshort _ _ _ _ _ _ _ _ _ _ _ _ rfl
      all_goals simp at hlong
    simp
    omega

/-- The framing checks on a body of a code are the lengths of section 11.2. -/
theorem bodyFits_iff (code : Byte) (b : List Byte) : bodyFits code.toNat b = true ↔ AllowedBody code b := by
  by_cases habove : 32 < code.toNat
  · rw [bodyFits_of_above habove]
    obtain ⟨k, hk⟩ : ∃ k, code.toNat = k + 33 := ⟨code.toNat - 33, by omega⟩
    simp [AllowedBody, hk]
  · generalize hv : code.toNat = v at habove
    have hle : v ≤ 32 := by omega
    unfold AllowedBody
    rw [hv]
    clear hv habove
    interval_cases v <;>
      simp [bodyFits, bodyNone_isSome, bodyByte_isSome, bodyWord_isSome, bodyPair_isSome, bodyLoad_isSome,
        bodySetGain_isSome, bodySeat_isSome, bodyAdmit_isSome, bodyAmend_isSome, bodyCue_isSome, bodyKinds, bodyOutputs]

/-! ## Sets named in a body -/

section
variable {α β : Type}

theorem mapM_eq_some_iff (f : α → Option β) (xs : List α) (ys : List β) :
    xs.mapM f = some ys ↔ xs.map f = ys.map some := by
  induction xs generalizing ys with
  | nil => cases ys <;> simp
  | cons x xs ih =>
    cases hx : f x with
    | none => cases ys <;> simp [hx]
    | some y =>
      cases ys with
      | nil => simp [hx, Option.bind_eq_some_iff]
      | cons z zs =>
        simp only [List.mapM_cons, hx, Option.bind_eq_bind, Option.bind_some, Option.bind_eq_some_iff, List.map_cons,
          List.cons.injEq, Option.some.injEq, Option.pure_def]
        constructor
        · rintro ⟨ws, hws, rfl, rfl⟩
          exact ⟨rfl, (ih ws).mp hws⟩
        · rintro ⟨rfl, hzs⟩
          exact ⟨zs, (ih zs).mpr hzs, rfl, rfl⟩

theorem mapM_eq_none_of_mem {f : α → Option β} {xs : List α} {x : α} (hx : x ∈ xs) (hf : f x = none) :
    xs.mapM f = none := by
  cases h : xs.mapM f with
  | none => rfl
  | some ys =>
    rw [mapM_eq_some_iff] at h
    have hmem : f x ∈ ys.map some := h ▸ List.mem_map_of_mem hx
    rw [hf] at hmem
    simp at hmem

theorem exists_mapM_eq_some {f : α → Option β} {xs : List α} (h : ∀ x ∈ xs, (f x).isSome = true) :
    ∃ ys, xs.mapM f = some ys := by
  cases hm : xs.mapM f with
  | some ys => exact ⟨ys, rfl⟩
  | none =>
    refine absurd hm ?_
    induction xs with
    | nil => simp
    | cons x xs ih =>
      obtain ⟨y, hy⟩ := Option.isSome_iff_exists.mp (h x (List.mem_cons_self ..))
      have hrest := ih fun z hz => h z (List.mem_cons_of_mem x hz)
      cases hxs : xs.mapM f with
      | none => exact absurd hxs (hrest hxs)
      | some ys => simp [hy, hxs]

end

/-- What a list of codes names: exactly the members whose codes it holds. -/
theorem mem_of_mapM_ofCode {α : Type} {ofCode : Nat → Option α} {code : α → Nat}
    (hcode : ∀ v x, ofCode v = some x ↔ code x = v) {codes : List Nat} {xs : List α} (h : codes.mapM ofCode = some xs)
    (x : α) : x ∈ xs ↔ code x ∈ codes := by
  rw [mapM_eq_some_iff] at h
  have hmem : some x ∈ xs.map some ↔ some x ∈ codes.map ofCode := by rw [h]
  constructor
  · intro hx
    obtain ⟨v, hv, hvx⟩ := List.mem_map.mp (hmem.mp (List.mem_map_of_mem hx))
    rwa [(hcode v x).mp hvx]
  · intro hx
    obtain ⟨y, hy, hyx⟩ := List.mem_map.mp (hmem.mpr (List.mem_map.mpr ⟨code x, hx, (hcode _ x).mpr rfl⟩))
    rwa [← Option.some.inj hyx]

theorem kind_ofCode_iff (v : Nat) (k : NoticeKind) : NoticeKind.ofCode v = some k ↔ k.code = v := by
  constructor
  · intro h
    unfold NoticeKind.ofCode at h
    split at h <;> cases h <;> rfl
  · rintro rfl
    cases k <;> rfl

theorem kind_ofCode_isSome {v : Nat} (hlow : 1 ≤ v) (hhigh : v ≤ 6) : (NoticeKind.ofCode v).isSome = true := by
  interval_cases v <;> rfl

theorem kind_ofCode_of_outside {v : Nat} (h : v = 0 ∨ 6 < v) : NoticeKind.ofCode v = none := by
  cases hk : NoticeKind.ofCode v with
  | none => rfl
  | some k =>
    have hv := (kind_ofCode_iff v k).mp hk
    cases k <;> simp [NoticeKind.code] at hv <;> omega

theorem nodup_map_toNat (body : List Byte) : (body.map BitVec.toNat).Nodup ↔ body.Nodup :=
  List.nodup_map_iff fun _ _ h => BitVec.eq_of_toNat_eq h

theorem kinds?_of_wrong {body : List Byte} (h : ¬body.Nodup ∨ ∃ b ∈ body, b.toNat = 0 ∨ 6 < b.toNat) :
    kinds? (body.map BitVec.toNat) = none := by
  unfold kinds?
  split
  next hnodup =>
    rcases h with h | ⟨b, hb, hout⟩
    · exact absurd ((nodup_map_toNat body).mp hnodup) h
    · exact mapM_eq_none_of_mem (List.mem_map_of_mem hb) (kind_ofCode_of_outside hout)
  · rfl

theorem kinds?_of_right {body : List Byte} (hnodup : body.Nodup) (h : ∀ b ∈ body, 1 ≤ b.toNat ∧ b.toNat ≤ 6) :
    ∃ kinds, kinds? (body.map BitVec.toNat) = some kinds ∧
      ∀ k : NoticeKind, kinds.contains k = body.any fun b => b.toNat == k.code := by
  obtain ⟨kinds, hkinds⟩ := exists_mapM_eq_some (f := NoticeKind.ofCode) (xs := body.map BitVec.toNat) (by
    intro v hv
    obtain ⟨b, hb, rfl⟩ := List.mem_map.mp hv
    exact kind_ofCode_isSome (h b hb).1 (h b hb).2)
  refine ⟨kinds, ?_, fun k => ?_⟩
  · rw [kinds?, if_pos ((nodup_map_toNat body).mpr hnodup), hkinds]
  · rw [Bool.eq_iff_iff, List.contains_iff_mem, mem_of_mapM_ofCode kind_ofCode_iff hkinds, List.mem_map, List.any_eq_true]
    simp only [beq_iff_eq]

/-! ## Flags as bits -/

theorem sum_flags_eq_ofBits {n : Nat} (f : Fin n → Bool) :
    ((List.finRange n).map fun i => if f i then 2 ^ i.val else 0).sum = Nat.ofBits f := by
  induction n with
  | zero => rfl
  | succ n ih =>
    have hshift : ((List.finRange n).map fun i : Fin n => if f i.succ then 2 ^ (i.val + 1) else 0).sum =
        2 * ((List.finRange n).map fun i : Fin n => if f i.succ then 2 ^ i.val else 0).sum := by
      rw [← List.sum_map_mul_left]
      refine congrArg List.sum (List.map_congr_left fun i _ => ?_)
      split <;> ring
    rw [List.finRange_succ, List.map_cons, List.sum_cons, List.map_map, Nat.ofBits_succ, ← ih]
    simp only [Function.comp_def, Fin.val_succ, hshift]
    cases f 0 <;> simp
    omega

theorem getLsbD_ofBits {n : Nat} (f : Fin n → Bool) (hn : n ≤ 8) (i : Fin n) :
    (BitVec.ofNat 8 (Nat.ofBits f)).getLsbD i.val = f i := by
  rw [BitVec.getLsbD_ofNat, Nat.testBit_ofBits_lt f i.val i.isLt]
  simp only [decide_eq_true (Nat.lt_of_lt_of_le i.isLt hn), Bool.true_and]

theorem linkFlagsByte_getLsbD (b : Bank 8 Bool) (i : Fin 8) : (linkFlagsByte b).getLsbD i.val = b.get i := by
  rw [linkFlagsByte, sum_flags_eq_ofBits b.get, getLsbD_ofBits b.get le_rfl i]

theorem seatFlagsByte_getLsbD (b : Bank 4 Bool) (i : Fin 4) : (seatFlagsByte b).getLsbD i.val = b.get i := by
  rw [seatFlagsByte, sum_flags_eq_ofBits b.get, getLsbD_ofBits b.get (by decide) i]

theorem seatFlagsByte_lt (b : Bank 4 Bool) : (seatFlagsByte b).toNat < 16 := by
  have hlt := Nat.ofBits_lt_two_pow b.get
  rw [seatFlagsByte, sum_flags_eq_ofBits b.get, BitVec.toNat_ofNat]
  omega

/-- Bit (code − 1) of the byte of a set of kinds is the kind's flag. -/
theorem noticeFlags_byte (f : NoticeFlags) (k : NoticeKind) :
    f.byte.getLsbD (k.code - 1) = f.get k ∧ f.byte.toNat < 64 := by
  obtain ⟨clock, link, seat, cue, clip, queue⟩ := f
  cases k <;> revert clock link seat cue clip queue <;> decide

theorem byte1_flagCode (b : Bool) : byte1 (flagCode b) = [if b then 1 else 0] := by
  cases b <;> rfl

theorem get_ofFn (f : NoticeKind → Bool) (k : NoticeKind) : (NoticeFlags.ofFn f).get k = f k := by
  cases k <;> rfl

end Sys2Proof.Machine
end

section
/-! PROOFS. The framing of requests, notices and their requests (R175, R178 to R181). -/

namespace Sys2Proof.Machine

open Sys2Proof

/-- What framing takes apart is a message of its code, tag and body. -/
theorem eq_requestBytes_of_framed {w : List Byte} {code tag : Byte} {body : List Byte}
    (hcode : HeldRequest.code? { bytes := w.take 64, count := w.length } = some code)
    (hframed : HeldRequest.framed { bytes := w.take 64, count := w.length } = some (tag, body)) :
    w.length ≤ 64 ∧ w = requestBytes code tag body := by
  unfold HeldRequest.framed at hframed
  dsimp only at hframed
  split at hframed
  next len second third rest hw =>
    split at hframed
    next hcounts =>
      cases hframed
      obtain ⟨hle, hcount, hlen⟩ := hcounts
      have hall : w.take 64 = w := List.take_of_length_le hle
      rw [HeldRequest.code?, hw] at hcode
      cases hcode
      rw [hall] at hw
      refine ⟨hle, ?_⟩
      rw [hw, requestBytes]
      congr 1
      rw [hw] at hlen
      simp only [List.length_cons] at hlen
      apply BitVec.eq_of_toNat_eq
      rw [BitVec.toNat_ofNat]
      omega
    next => cases hframed
  next => cases hframed

/-- Settles O10: framing takes a message apart, and its body is tested by the lengths of its code. -/
theorem framingAcceptsExactlyTheLengthsOfTheTables : Obligations.FramingAcceptsExactlyTheLengthsOfTheTables := by
  intro w
  constructor
  · intro h
    unfold HeldRequest.wellFramed at h
    split at h
    next code tag body hcode hframed =>
      obtain ⟨hle, hw⟩ := eq_requestBytes_of_framed hcode hframed
      exact ⟨hle, code, tag, body, hw, (bodyFits_iff code body).mp h⟩
    next => cases h
  · rintro ⟨hle, code, tag, body, rfl, hbody⟩
    have hlength : (requestBytes code tag body).length = body.length + 3 := rfl
    have hframed := framed_requestBytes code tag body (by omega)
    rw [List.take_of_length_le hle, hlength]
    unfold HeldRequest.wellFramed
    rw [hframed]
    exact (bodyFits_iff code body).mpr hbody

theorem exec_readNotices_of_holds {s : State} {tag : Byte} (h : s.Holds 0x1A tag []) :
    exec .readNotices s = .next (s.responded 0x1A tag .ok s.noticesBody) :=
  congrArg Host.Outcome.next ((takeRequest_of_holds bodyNone readNotices h (by simp) rfl).trans
    (answer_of_no_causes _ _ _ rfl))

theorem exec_setNoticeMask_of_holds {s : State} {tag : Byte} {body : List Byte} (h : s.Holds 0x1C tag body)
    (hlen : body.length ≤ 6) :
    exec .setNoticeMask s = .next ((setNoticeMask s (body.map BitVec.toNat)).answer 0x1C tag) :=
  congrArg Host.Outcome.next (takeRequest_of_holds bodyKinds setNoticeMask h (by omega) (if_pos hlen))

theorem exec_clearNotices_of_holds {s : State} {tag : Byte} {body : List Byte} (h : s.Holds 0x1B tag body)
    (hlen : body.length ≤ 6) :
    exec .clearNotices s = .next ((clearNotices s (body.map BitVec.toNat)).answer 0x1B tag) :=
  congrArg Host.Outcome.next (takeRequest_of_holds bodyKinds clearNotices h (by omega) (if_pos hlen))

theorem setNoticeMask_of_none {s : State} {codes : List Nat} (h : kinds? codes = none) :
    setNoticeMask s codes = refuse s .badValue := by
  simp only [setNoticeMask, h]

theorem clearNotices_of_none {s : State} {codes : List Nat} (h : kinds? codes = none) :
    clearNotices s codes = refuse s .badValue := by
  simp only [clearNotices, h]

theorem setNoticeMask_of_some {s : State} {codes : List Nat} {kinds : List NoticeKind} (h : kinds? codes = some kinds) :
    setNoticeMask s codes =
      { st := { s with mask := .ofFn fun k => kinds.contains k }, body := [(NoticeFlags.ofFn fun k => kinds.contains k).byte] } := by
  simp only [setNoticeMask, h]

theorem clearNotices_of_some {s : State} {codes : List Nat} {kinds : List NoticeKind} (h : kinds? codes = some kinds) :
    clearNotices s codes = { st := s.clearKinds kinds, body := s.clearedBody } := by
  simp only [clearNotices, h]

/-- Settles O12: a body names kinds by their codes, or is refused. -/
theorem noticeRequestsReadMaskAndClear : Obligations.NoticeRequestsReadMaskAndClear := by
  refine ⟨noticeFlags_byte, linkFlagsByte_getLsbD, fun b i => ⟨seatFlagsByte_getLsbD b i, seatFlagsByte_lt b⟩,
    fun s tag => ⟨fun h => ?_, fun body hlen => ⟨fun hwrong => ⟨fun h => ?_, fun h => ?_⟩, fun hnodup hrange => ⟨fun h => ?_, fun h => ?_⟩⟩⟩⟩
  · rw [exec_readNotices_of_holds h, State.noticesBody, byte1_flagCode]
    rfl
  · rw [exec_setNoticeMask_of_holds h hlen, setNoticeMask_of_none (kinds?_of_wrong hwrong), answer_refuse]
  · rw [exec_clearNotices_of_holds h hlen, clearNotices_of_none (kinds?_of_wrong hwrong), answer_refuse]
  · obtain ⟨kinds, hkinds, hnamed⟩ := kinds?_of_right hnodup hrange
    refine ⟨.ofFn fun k => kinds.contains k, fun k => ?_, ?_⟩
    · rw [get_ofFn, hnamed]
    · rw [exec_setNoticeMask_of_holds h hlen, setNoticeMask_of_some hkinds, answer_of_no_causes _ _ _ rfl]
  · obtain ⟨kinds, hkinds, hnamed⟩ := kinds?_of_right hnodup hrange
    refine ⟨s.notices.lower fun k => kinds.contains k, fun k => ?_, ?_⟩
    · rw [NoticeFlags.lower, get_ofFn, hnamed]
    · simp only [← hnamed]
      rw [exec_clearNotices_of_holds h hlen, clearNotices_of_some hkinds, answer_of_no_causes _ _ _ rfl, State.clearedBody,
        byte1_flagCode]
      rfl

/-- The kinds from the highest priority down. -/
theorem all_pairwise : NoticeKind.all.Pairwise fun j k => j.code < k.code := by
  decide

theorem mem_all (k : NoticeKind) : k ∈ NoticeKind.all := by
  cases k <;> decide

theorem shows_iff (s : State) (k : NoticeKind) : s.shows k = true ↔ s.notices.get k = true ∧ s.mask.get k = false := by
  simp [State.shows]

theorem code_pos (k : NoticeKind) : 0 < k.code := by
  cases k <;> decide

theorem topNotice_eq_zero (s : State) : s.topNotice = 0 ↔ ∀ k, ¬s.shows k = true := by
  unfold State.topNotice
  split
  next k hk =>
    have hshown := List.find?_some hk
    exact ⟨fun h => absurd h (code_pos k).ne', fun h => absurd hshown (h k)⟩
  next hnone =>
    exact ⟨fun _ k => List.find?_eq_none.mp hnone k (mem_all k), fun _ => rfl⟩

/-- The top-notice code is that of the first kind shown. -/
theorem topNotice_eq_code (s : State) (k : NoticeKind) :
    s.topNotice = k.code ↔ s.shows k = true ∧ ∀ j, j.code < k.code → ¬s.shows j = true := by
  have hinj : ∀ j k : NoticeKind, j.code = k.code → j = k := by
    intro j k
    cases j <;> cases k <;> decide
  unfold State.topNotice
  split
  next top htop =>
    obtain ⟨hshown, before, behind, hall, hbefore⟩ := List.find?_eq_some_iff_append.mp htop
    have hfirst : ∀ j, j.code < top.code → ¬s.shows j = true := by
      intro j hj
      have hmem := mem_all j
      have hsorted := all_pairwise
      rw [hall] at hmem hsorted
      rw [List.pairwise_append] at hsorted
      rcases List.mem_append.mp hmem with hin | hin
      · simpa using hbefore j hin
      · rcases List.mem_cons.mp hin with rfl | hbehind
        · exact absurd hj (lt_irrefl _)
        · exact absurd hj (not_lt.mpr ((List.pairwise_cons.mp hsorted.2.1).1 j hbehind).le)
    constructor
    · intro h
      cases hinj top k h
      exact ⟨hshown, hfirst⟩
    · rintro ⟨hk, hnone⟩
      rcases lt_trichotomy top.code k.code with h | h | h
      · exact absurd hshown (hnone top h)
      · exact h
      · exact absurd hk (hfirst k h)
  next hnone =>
    exact ⟨fun h => absurd h (code_pos k).ne, fun ⟨hk, _⟩ => absurd hk (List.find?_eq_none.mp hnone k (mem_all k))⟩

/-- Settles O13: the kinds are tried in the order of their codes. -/
theorem attnAndTopNoticeFollowTheUnmaskedFlags : Obligations.AttnAndTopNoticeFollowTheUnmaskedFlags := by
  refine ⟨⟨rfl, rfl, rfl, rfl, rfl, rfl⟩, fun s => ⟨?_, fun k => ?_, ?_⟩⟩ <;> simp only [← shows_iff]
  · exact topNotice_eq_zero s
  · exact topNotice_eq_code s k
  · rw [State.attn, Bool.and_eq_true, Bool.or_eq_true, isReady_eq_true, responsePending_eq_true, List.any_eq_true]
    exact and_congr_right fun _ => or_congr_right ⟨fun ⟨k, _, hk⟩ => ⟨k, hk⟩, fun ⟨k, hk⟩ => ⟨k, mem_all k, hk⟩⟩

end Sys2Proof.Machine
end

section
/-! SUPPORT. Named fields, the check of a configuration, and entries as bytes (R3, R4, R8, R10, section 11.2). -/

namespace Sys2Proof.Machine

open Sys2Proof

/-! ## Fields by their numbers -/

/-- A field of a configuration by its number (section 11.2). -/
def RawConfig.field (c : RawConfig) (k : Nat) : Nat :=
  match k with
  | 1 => c.handle
  | 2 => c.seat
  | 3 => c.side
  | 4 => c.blockLength
  | 5 => c.startLevel
  | 6 => c.lowMark
  | 7 => c.supervision
  | 8 => c.loopShift
  | 9 => c.starveLimit
  | 10 => c.talkOn
  | 11 => c.talkOff
  | 12 => c.hang
  | _ => 0

theorem field_write (c : RawConfig) (entry : Nat × Nat) {k : Nat} (hlow : 1 ≤ k) (hhigh : k ≤ 12) :
    (c.write entry).field k = if entry.1 = k then entry.2 else c.field k := by
  obtain ⟨f, v⟩ := entry
  unfold RawConfig.write
  dsimp only
  split <;> interval_cases k <;> simp_all [RawConfig.field]

theorem fieldNamed_cons (e : Nat × Nat) (es : List (Nat × Nat)) (k kept : Nat) :
    fieldNamed (e :: es) k kept = if e.1 = k then e.2 else fieldNamed es k kept := by
  by_cases h : e.1 = k
  · simp [fieldNamed, h]
  · simp [fieldNamed, h]

theorem fieldNamed_of_unnamed {es : List (Nat × Nat)} {k : Nat} (h : k ∉ es.map fun e => e.1) (kept : Nat) :
    fieldNamed es k kept = kept := by
  have hnone : (es.find? fun e => e.1 == k) = none := by
    rw [List.find?_eq_none]
    intro e he hk
    exact h (List.mem_map.mpr ⟨e, he, by simpa using hk⟩)
  rw [fieldNamed, hnone]

/-- Entries that name each field at most once write the fields they name. -/
theorem field_writeAll {es : List (Nat × Nat)} (h : (es.map fun e => e.1).Nodup) (c : RawConfig) {k : Nat} (hlow : 1 ≤ k)
    (hhigh : k ≤ 12) : (c.writeAll es).field k = fieldNamed es k (c.field k) := by
  induction es generalizing c with
  | nil => rfl
  | cons e es ih =>
    obtain ⟨hunnamed, hrest⟩ := List.nodup_cons.mp h
    have hwrite : (c.writeAll (e :: es)) = (c.write e).writeAll es := rfl
    rw [hwrite, ih hrest, field_write c e hlow hhigh, fieldNamed_cons]
    split
    next hk => exact fieldNamed_of_unnamed (hk ▸ hunnamed) _
    · rfl

/-! ## The check -/

theorem side_ofCode_iff (v : Nat) (side : Side) : Side.ofCode v = some side ↔ side.code = v := by
  constructor
  · intro h
    unfold Side.ofCode at h
    split at h <;> cases h <;> rfl
  · rintro rfl
    cases side <;> rfl

theorem mem_blockLengths_le {b : Nat} (h : b ∈ blockLengths) : b ≤ 240 := by
  simp only [blockLengths, List.mem_cons, List.not_mem_nil, or_false] at h
  omega

/-- A configuration is valid exactly if its numbers are (R3). -/
theorem valid_raw_iff (c : LinkConfig) : c.raw.valid = true ↔ c.Valid := by
  have hseat : c.seat.val ≤ 3 := by omega
  have hside : c.side.code ≤ 1 := Nat.lt_succ_iff.mp (side_code_lt c.side)
  simp only [RawConfig.valid, Bool.and_eq_true, decide_eq_true_eq]
  simp only [LinkConfig.raw, List.contains_iff_mem, Config.handleMax, Config.worstSupply, Config.queueCapacity]
  constructor
  · rintro ⟨⟨⟨⟨⟨⟨⟨⟨⟨⟨⟨⟨⟨⟨hhandle, -⟩, -⟩, hblock⟩, hlow⟩, hhigh⟩, hmark⟩, hs1⟩, hs2⟩, hloop⟩, hv1⟩, hv2⟩, hon⟩, hoff⟩, hhang⟩
    have hle := mem_blockLengths_le hblock
    exact
      { handle := hhandle, block := hblock, startLow := hlow, startHigh := by omega, lowMark := hmark
        supervision := ⟨hs1, hs2⟩, loopShift := hloop, starveLimit := ⟨hv1, hv2⟩, talkOn := hon, talkOff := hoff
        hang := hhang }
  · intro h
    have hstart := h.startHigh
    exact ⟨⟨⟨⟨⟨⟨⟨⟨⟨⟨⟨⟨⟨⟨h.handle, hseat⟩, hside⟩, h.block⟩, h.startLow⟩, by omega⟩, h.lowMark⟩, h.supervision.1⟩,
      h.supervision.2⟩, h.loopShift⟩, h.starveLimit.1⟩, h.starveLimit.2⟩, h.talkOn⟩, h.talkOff⟩, h.hang⟩

theorem handle_le_of_valid {raw : RawConfig} (h : raw.valid = true) : raw.handle ≤ 0xEFF := by
  simp only [RawConfig.valid, Bool.and_eq_true, decide_eq_true_eq] at h
  exact h.1.1.1.1.1.1.1.1.1.1.1.1.1.1

/-- The check gives the configuration whose numbers these are, where it is valid. -/
theorem check_eq_some_iff (raw : RawConfig) (c : LinkConfig) : raw.check = some c ↔ c.raw = raw ∧ c.Valid := by
  rw [← valid_raw_iff]
  unfold RawConfig.check
  constructor
  · intro h
    split at h
    next hvalid =>
      obtain ⟨seat, hseat, hsides⟩ := Option.bind_eq_some_iff.mp h
      obtain ⟨side, hside, rfl⟩ := Option.map_eq_some_iff.mp hsides
      have hhandle := handle_le_of_valid hvalid
      have hraw : LinkConfig.raw
          { handle := BitVec.ofNat 12 raw.handle, seat, side, blockLength := raw.blockLength
            startLevel := raw.startLevel, lowMark := raw.lowMark, supervision := raw.supervision
            loopShift := raw.loopShift, starveLimit := raw.starveLimit, talkOn := raw.talkOn, talkOff := raw.talkOff
            hang := raw.hang } = raw := by
        simp only [LinkConfig.raw, index?_eq_some.mp hseat, (side_ofCode_iff _ _).mp hside, BitVec.toNat_ofNat,
          Nat.mod_eq_of_lt (show raw.handle < 2 ^ 12 by omega)]
      exact ⟨hraw, by rwa [hraw]⟩
    · cases h
  · rintro ⟨rfl, hvalid⟩
    have hseat : index? 4 c.raw.seat = some c.seat := index?_eq_some.mpr rfl
    have hside : Side.ofCode c.raw.side = some c.side := (side_ofCode_iff _ _).mpr rfl
    rw [if_pos hvalid, hseat, hside]
    simp [LinkConfig.raw]

/-! ## Entries as bytes -/

theorem bodyEntries_entryBytes (entries : List (Byte × Byte × Byte)) :
    bodyEntries (entryBytes entries) = some (entryValues entries) := by
  induction entries with
  | nil => rfl
  | cons e entries ih =>
    have hbytes : entryBytes (e :: entries) = e.1 :: e.2.1 :: e.2.2 :: entryBytes entries := rfl
    rw [hbytes, bodyEntries, ih]
    rfl

theorem length_entryBytes (entries : List (Byte × Byte × Byte)) : (entryBytes entries).length = 3 * entries.length :=
  (length_of_bodyEntries (bodyEntries_entryBytes entries)).trans (by simp [entryValues])

/-- The entries are refused exactly if some field is named twice or is none of those that may be named. -/
theorem entriesOk_eq_false_iff (low : Nat) (entries : List (Nat × Nat)) :
    entriesOk low entries = false ↔ ¬(entries.map fun e => e.1).Nodup ∨ ∃ e ∈ entries, e.1 < low ∨ 12 < e.1 := by
  rw [← Bool.not_eq_true, entriesOk_iff, not_and_or, or_comm]
  refine or_congr_right ?_
  push Not
  refine exists_congr fun e => and_congr_right fun _ => ?_
  omega

end Sys2Proof.Machine
end

section
/-! PROOFS. Configurations, and the requests ADMIT LINK, AMEND LINK and RETIRE LINK (R1, R3, R4, R8, R10, R14). -/

namespace Sys2Proof.Machine

open Sys2Proof

/-- Settles O15: the fields written are looked up one by one, by their numbers. -/
theorem namedFieldsDefaultsAndValidity : Obligations.NamedFieldsDefaultsAndValidity := by
  refine ⟨fun c es h => ?_, check_eq_some_iff, fun _ _ _ _ => rfl, by decide⟩
  have hfield (k : Nat) (hlow : 1 ≤ k := by decide) (hhigh : k ≤ 12 := by decide) :
      (c.writeAll es).field k = fieldNamed es k (c.field k) := field_writeAll h c hlow hhigh
  rw [← show c.field 1 = c.handle from rfl, ← show c.field 2 = c.seat from rfl, ← show c.field 3 = c.side from rfl,
    ← show c.field 4 = c.blockLength from rfl, ← show c.field 5 = c.startLevel from rfl,
    ← show c.field 6 = c.lowMark from rfl, ← show c.field 7 = c.supervision from rfl,
    ← show c.field 8 = c.loopShift from rfl, ← show c.field 9 = c.starveLimit from rfl,
    ← show c.field 10 = c.talkOn from rfl, ← show c.field 11 = c.talkOff from rfl, ← show c.field 12 = c.hang from rfl]
  rw [← hfield 1, ← hfield 2, ← hfield 3, ← hfield 4, ← hfield 5, ← hfield 6, ← hfield 7, ← hfield 8, ← hfield 9,
    ← hfield 10, ← hfield 11, ← hfield 12]
  rfl

section
variable {s : State} {tag : Byte}

theorem exec_admitLink_of_holds {lo hi seat side block : Byte} {entries : List (Byte × Byte × Byte)}
    (hlength : entries.length ≤ 8) (h : s.Holds 0x01 tag ([lo, hi, seat, side, block] ++ entryBytes entries)) :
    exec .admitLink s = .next ((admitLink s
      ⟨lo.toNat + 256 * hi.toNat, seat.toNat, side.toNat, block.toNat, entryValues entries⟩).answer 0x01 tag) := by
  refine congrArg Host.Outcome.next (takeRequest_of_holds bodyAdmit admitLink h ?_ ?_)
  · have hbytes := length_entryBytes entries
    simp only [List.length_append, List.length_cons, List.length_nil]
    omega
  · have hvalues : (entryValues entries).length ≤ 8 := by simpa [entryValues] using hlength
    simp only [List.cons_append, List.nil_append, bodyAdmit, bodyEntries_entryBytes, Option.bind_some, hvalues, if_true]
    rfl

theorem exec_amendLink_of_holds {index : Byte} {entries : List (Byte × Byte × Byte)} (hlow : 1 ≤ entries.length)
    (hhigh : entries.length ≤ 11) (h : s.Holds 0x02 tag (index :: entryBytes entries)) :
    exec .amendLink s = .next ((amendLink s (index.toNat, entryValues entries)).answer 0x02 tag) := by
  refine congrArg Host.Outcome.next (takeRequest_of_holds bodyAmend amendLink h ?_ ?_)
  · have hbytes := length_entryBytes entries
    simp only [List.length_cons]
    omega
  · have hvalues : 1 ≤ (entryValues entries).length ∧ (entryValues entries).length ≤ 11 := by
      simpa [entryValues] using ⟨hlow, hhigh⟩
    simp only [bodyAmend, bodyEntries_entryBytes, Option.bind_some, hvalues, and_self, if_true]

theorem exec_retireLink_of_holds {index : Byte} (h : s.Holds 0x05 tag [index]) :
    exec .retireLink s = .next ((retireLink s index.toNat).answer 0x05 tag) :=
  congrArg Host.Outcome.next (takeRequest_of_holds bodyByte retireLink h (by simp) rfl)

/-! ## What a table has room for -/

theorem freeSlot_eq_none : s.freeSlot = none ↔ ∀ i, s.slots.get i ≠ none := by
  unfold State.freeSlot
  rw [Bank.find?_eq_none]
  refine forall_congr' fun i => ?_
  cases s.slots.get i <;> simp

theorem freeSlot_eq_some {i : Fin 8} : s.freeSlot = some i ↔ s.slots.get i = none ∧ ∀ j < i, s.slots.get j ≠ none := by
  unfold State.freeSlot
  rw [Bank.find?_eq_some]
  refine and_congr (by simp) (forall₂_congr fun j _ => ?_)
  cases s.slots.get j <;> simp

theorem byHandle_isSome {handle : BitVec 12} :
    (s.byHandle handle.toNat).isSome = true ↔ ∃ i r, s.slots.get i = some r ∧ r.config.handle = handle := by
  rw [← not_iff_not, Bool.not_eq_true, Option.isSome_eq_false_iff, Option.isNone_iff_eq_none]
  unfold State.byHandle
  rw [Bank.find?_eq_none]
  push Not
  refine forall_congr' fun i => ?_
  cases s.slots.get i <;> simp [BitVec.toNat_inj]

theorem holder_isSome {seat : Fin 4} {side : Side} : (holder s.slots seat side).isSome = true ↔
    ∃ i r, s.slots.get i = some r ∧ r.config.seat = seat ∧ r.config.side = side := by
  rw [← not_iff_not, Bool.not_eq_true, Option.isSome_eq_false_iff, Option.isNone_iff_eq_none, holder_eq_none]
  push Not
  rfl

/-! ## ADMIT LINK -/

theorem config?_eq (a : AdmitBody) : a.config? =
    if entriesOk 5 a.entries then
      ((RawConfig.defaults a.handle a.seat a.side a.blockLength).writeAll a.entries).check
    else none := rfl

theorem admitLink_of_none {a : AdmitBody} (h : a.config? = none) : admitLink s a = refuse s .badValue := by
  simp only [admitLink, h]

theorem admitLink_of_full {a : AdmitBody} {c : LinkConfig} (h : a.config? = some c) (hfull : s.freeSlot = none) :
    admitLink s a = refuse s .tableFull := by
  simp only [admitLink, h, hfull]

/-- ADMIT LINK of a valid configuration where a slot is FREE, test by test. -/
theorem admitLink_of_free {a : AdmitBody} {c : LinkConfig} {i : Fin 8} (h : a.config? = some c) (hfree : s.freeSlot = some i) :
    admitLink s a =
      if (s.byHandle c.handle.toNat).isSome then refuse s .duplicateHandle
      else if (holder s.slots c.seat c.side).isSome then refuse s .seatTaken
      else { st := s.admitTo i c, body := byte1 i.val } := by
  simp only [admitLink, h, hfree]

end

/-- Settles O16: each refusal's test is the absence or presence of a slot that answers it. -/
theorem admitLinkFillsTheLowestFreeSlot : Obligations.AdmitLinkFillsTheLowestFreeSlot := by
  intro s tag lo hi seat side block entries hlength h named wrong asked
  rw [exec_admitLink_of_holds hlength h]
  have hconfig := config?_eq ⟨lo.toNat + 256 * hi.toNat, seat.toNat, side.toNat, block.toNat, entryValues entries⟩
  refine ⟨fun hbad => ?_, fun c hright hasked => ?_⟩
  · rw [admitLink_of_none, answer_refuse]
    rw [hconfig]
    rcases hbad with hwrong | hnone
    · rw [(entriesOk_eq_false_iff 5 _).mpr hwrong]
      rfl
    · split
      · exact hnone
      · rfl
  · have hok : entriesOk 5 (entryValues entries) = true := by
      rw [← Bool.not_eq_false, entriesOk_eq_false_iff]
      exact hright
    rw [hok, if_pos rfl] at hconfig
    have hsome := hconfig.trans hasked
    intro full held taken
    refine ⟨fun hfull => ?_, fun hroom hheld => ?_, fun hroom hheld htaken => ?_, fun i hfree hlowest hheld htaken => ?_⟩
    · rw [admitLink_of_full hsome (freeSlot_eq_none.mpr hfull), answer_refuse]
    · obtain ⟨i, hi⟩ := Option.ne_none_iff_exists'.mp fun hnone => hroom (freeSlot_eq_none.mp hnone)
      rw [admitLink_of_free hsome hi, if_pos (byHandle_isSome.mpr hheld), answer_refuse]
    · obtain ⟨i, hi⟩ := Option.ne_none_iff_exists'.mp fun hnone => hroom (freeSlot_eq_none.mp hnone)
      rw [admitLink_of_free hsome hi, if_neg (byHandle_isSome.not.mpr hheld), if_pos (holder_isSome.mpr htaken), answer_refuse]
    · rw [admitLink_of_free hsome (freeSlot_eq_some.mpr ⟨hfree, hlowest⟩), if_neg (byHandle_isSome.not.mpr hheld),
        if_neg (holder_isSome.not.mpr htaken), answer_of_no_causes _ _ _ rfl]
      rfl

/-! ## AMEND LINK -/

section
variable {s : State}

theorem moves_iff (old new : LinkConfig) : old.moves new = true ↔
    (new.seat ≠ old.seat ∨ new.side ≠ old.side) ∨ new.blockLength ≠ old.blockLength := by
  simp [LinkConfig.moves, ne_comm]

theorem seatClash_iff (i : Fin 8) (old new : LinkConfig) : s.seatClash i old new = true ↔
    (new.seat ≠ old.seat ∨ new.side ≠ old.side) ∧
      ∃ j q, j ≠ i ∧ s.slots.get j = some q ∧ q.config.seat = new.seat ∧ q.config.side = new.side := by
  simp only [State.seatClash, Bool.and_eq_true, Bool.or_eq_true, bne_iff_ne, Bank.any_eq_true, Option.any_eq_true,
    beq_iff_eq]
  refine and_congr (by rw [ne_comm, @ne_comm _ old.side]) ?_
  constructor
  · rintro ⟨j, hj, q, hq, hseat, hside⟩
    exact ⟨j, q, hj, hq, hseat, hside⟩
  · rintro ⟨j, q, hj, hq, hseat, hside⟩
    exact ⟨j, hj, q, hq, hseat, hside⟩

theorem amendLink_of_error {b : Nat × List (Nat × Nat)} {e : Status} (h : s.recordAt b.1 = .error e) :
    amendLink s b = refuse s e := by
  simp only [amendLink, h]

/-- AMEND LINK of a record with entries that name no field rightly, or that make no valid configuration. -/
theorem amendLink_of_wrong {b : Nat × List (Nat × Nat)} {i : Fin 8} {r : LinkRecord} (h : s.recordAt b.1 = .ok (i, r))
    (hwrong : entriesOk 2 b.2 = false ∨ (r.config.raw.writeAll b.2).check = none) : amendLink s b = refuse s .badValue := by
  simp only [amendLink, h]
  rcases hwrong with hentries | hcheck
  · rw [hentries, if_neg (by simp)]
  · simp only [hcheck, ite_self]

/-- AMEND LINK of a record with a valid configuration, test by test. -/
theorem amendLink_of_checked {b : Nat × List (Nat × Nat)} {i : Fin 8} {r : LinkRecord} {c : LinkConfig}
    (h : s.recordAt b.1 = .ok (i, r)) (hentries : entriesOk 2 b.2 = true)
    (hcheck : (r.config.raw.writeAll b.2).check = some c) : amendLink s b =
      if r.config.moves c ∧ (r.state = .priming ∨ r.state = .live) then refuse s .wrongState
      else if s.seatClash i r.config c then refuse s .seatTaken
      else { st := { s with slots := s.slots.set i (some (r.amended c)) } } := by
  simp only [amendLink, h, hentries, hcheck, if_true]

theorem retireLink_of_error {v : Nat} {e : Status} (h : s.recordAt v = .error e) : retireLink s v = refuse s e := by
  simp only [retireLink, h]

theorem retireLink_of_record {v : Nat} {i : Fin 8} {r : LinkRecord} (h : s.recordAt v = .ok (i, r)) :
    retireLink s v = { st := s.retire i, causes := r.departure i } := by
  simp only [retireLink, h]

end

/-- Settles O17: the tests of R10 in their order, and one record written. -/
theorem amendLinkWritesTheNamedFields : Obligations.AmendLinkWritesTheNamedFields := by
  intro s tag index entries hlow hhigh h named wrong
  rw [exec_amendLink_of_holds hlow hhigh h]
  refine ⟨fun habove => ?_, fun i hi => ⟨fun hfree => ?_, fun r hr => ?_⟩⟩
  · rw [amendLink_of_error (recordAt_of_above habove), answer_refuse]
  · rw [amendLink_of_error (hi ▸ recordAt_of_free hfree), answer_refuse]
  · have hat : s.recordAt (index.toNat, named).1 = .ok (i, r) := hi ▸ recordAt_of_record hr
    intro asked
    refine ⟨fun hbad => ?_, fun c hright hasked => ?_⟩
    · have hwrong : entriesOk 2 (entryValues entries) = false ∨ asked.check = none :=
        hbad.imp (fun h => (entriesOk_eq_false_iff 2 (entryValues entries)).mpr h) id
      rw [amendLink_of_wrong (b := (index.toNat, named)) hat hwrong, answer_refuse]
    · have hok : entriesOk 2 (entryValues entries) = true := by
        rw [← Bool.not_eq_false, entriesOk_eq_false_iff]
        exact hright
      rw [amendLink_of_checked (b := (index.toNat, named)) hat hok hasked]
      have hmove := moves_iff r.config c
      have hclash := seatClash_iff (s := s) i r.config c
      refine ⟨fun hmoves hrunning => ?_, fun hstays hreseats htaken => ?_, fun hstays hclear => ?_⟩
      · rw [if_pos ⟨hmove.mpr hmoves, hrunning⟩, answer_refuse]
      · rw [if_neg fun hm => hstays ⟨hmove.mp hm.1, hm.2⟩, if_pos (hclash.mpr ⟨hreseats, htaken⟩), answer_refuse]
      · rw [if_neg fun hm => hstays ⟨hmove.mp hm.1, hm.2⟩, if_neg fun hc => hclear (hclash.mp hc), answer_of_no_causes _ _ _ rfl]
        rfl

/-- What a record's departure hands over, by its state and activity (R15, R98). -/
theorem departure_eq (r : LinkRecord) (i : Fin 8) : r.departure i = departureCauses r i := by
  unfold LinkRecord.departure departureCauses
  cases r.state <;> cases r.activity <;> rfl

/-- Settles O20: the slot is freed, and the departure's causes are handed over. -/
theorem retireLinkFreesTheSlot : Obligations.RetireLinkFreesTheSlot := by
  intro s tag index h
  rw [exec_retireLink_of_holds h]
  refine ⟨fun habove => ?_, fun i hi => ⟨fun hfree => ?_, fun r hr => ?_⟩⟩
  · rw [retireLink_of_error (recordAt_of_above habove), answer_refuse]
  · rw [retireLink_of_error (hi ▸ recordAt_of_free hfree), answer_refuse]
  · rw [retireLink_of_record (hi ▸ recordAt_of_record hr), departure_eq]
    rfl

end Sys2Proof.Machine
end

section
/-! SUPPORT. Frames of any bytes as the receive checks read them, the steps of accepted frames, and the arbiter's choice
(R25 to R43, R49). -/

namespace Sys2Proof.Machine

open Sys2Proof

/-! ## Reception -/

section
variable {s : State}

theorem satAdd_eq_counted (a n : Nat) : satAdd a n = counted a n := rfl

theorem receive_receive (s : State) (first rest : List Byte) (ends : Bool) :
    (s.receive first false).receive rest ends = s.receive (first ++ rest) ends := by
  unfold State.receive
  cases ends <;> simp [clockIn_clockIn]

theorem eq_waiting (h : s.reception = .waiting) : ({ s with reception := .waiting } : State) = s := by
  rw [← h]

theorem clockIn_of_ignoring (h : s.reception = .ignoring) (bytes : List Byte) : s.clockIn bytes = s := by
  unfold State.clockIn
  rw [h]
  dsimp only
  rw [← h]

theorem receive_of_ignoring (h : s.reception = .ignoring) (bytes : List Byte) (ends : Bool) :
    s.receive bytes ends = { s with reception := if ends then .waiting else .ignoring } := by
  unfold State.receive
  rw [clockIn_of_ignoring h]
  cases ends
  · rw [if_neg (by simp), if_neg (by simp), ← h]
  · simp [State.pvalidFalls, h]

/-- A frame of at least one byte received whole arrives as the bytes that fit the receive buffer, and the count of all. -/
theorem receive_whole {bytes : List Byte} (hready : s.phase = .ready) (hwait : s.reception = .waiting) (hne : bytes ≠ []) :
    s.receive bytes true = (s.frameArrives (bytes.take 515) bytes.length).finish := by
  have hcount : bytes.length ≠ 0 := by simpa using hne
  calc s.receive bytes true
      = (s.clockIn bytes).pvalidFalls := rfl
    _ = State.pvalidFalls { s with reception := .receiving (bytes.take 515) bytes.length } := by
        rw [clockIn_of_waiting bytes hready hwait]
    _ = (State.frameArrives { s with reception := .waiting } (bytes.take 515) bytes.length).finish :=
        pvalidFalls_of_receiving hready rfl hcount
    _ = _ := by rw [eq_waiting hwait]

theorem receive_nothing (hwait : s.reception = .waiting) : s.receive [] true = s := by
  by_cases hready : s.phase = .ready
  · simp only [State.receive, if_true, clockIn_of_waiting [] hready hwait, State.pvalidFalls]
    rw [whenReady_of_ready]
    · exact eq_waiting hwait
    · exact hready
  · rw [receive_of_not_ready hready (fun b c hb => by rw [hwait] at hb; cases hb)]
    exact eq_waiting hwait

/-- What has been clocked in of a frame is as clocked in anew. -/
theorem clockIn_of_begun {begun : List Byte} (hready : s.phase = .ready)
    (h : s.reception = .receiving (begun.take 515) begun.length) (rest : List Byte) :
    s.clockIn rest = State.clockIn { s with reception := .waiting } (begun ++ rest) := by
  have hwait := clockIn_of_waiting (s := { s with reception := .waiting }) (begun ++ rest) hready rfl
  rw [hwait]
  simp [State.clockIn, h, Config.receiveCapacity, take_take_append]

end

/-! ## The format check -/

section
variable {bytes : List Byte}

theorem getLsbD_eq_testBit_word (lo hi : Byte) : (word16 lo hi).testBit 12 = frameMute hi := by
  have hlo := lo.isLt
  rw [frameMute, ← BitVec.testBit_toNat, word16, Nat.testBit_eq_decide_div_mod_eq, Nat.testBit_eq_decide_div_mod_eq]
  congr 2
  omega

/-- A list of at least five bytes. -/
theorem exists_five (h : 5 ≤ bytes.length) : ∃ a b c d e rest, bytes = a :: b :: c :: d :: e :: rest := by
  rcases bytes with _ | ⟨a, _ | ⟨b, _ | ⟨c, _ | ⟨d, _ | ⟨e, rest⟩⟩⟩⟩⟩
  case cons.cons.cons.cons.cons => exact ⟨a, b, c, d, e, rest, rfl⟩
  all_goals simp at h

theorem parseFrame_of_audioUp (h : IsAudioUp bytes) : ∃ mute seq samples,
    parseFrame (bytes.take 515) bytes.length = some (.audioUp (wordAt bytes 1 % 4096) mute seq (byteAt bytes 4) samples) := by
  obtain ⟨hlong, hkind, hdeclared⟩ := h
  obtain ⟨kind, lo, hi, seq, count, data, rfl⟩ := exists_five hlong
  have hone : kind = 0x01 := BitVec.eq_of_toNat_eq hkind
  have hword : wordAt (kind :: lo :: hi :: seq :: count :: data) 1 = word16 lo hi := rfl
  have hbyte : byteAt (kind :: lo :: hi :: seq :: count :: data) 4 = count.toNat := rfl
  rw [hword, getLsbD_eq_testBit_word, hbyte] at hdeclared
  refine ⟨frameMute hi, seq, bytesSamples (data.take 510), ?_⟩
  rw [hdeclared]
  simp only [List.take_succ_cons, parseFrame, hone, if_true]
  rfl

theorem parseFrame_of_linkStatus (h : IsLinkStatus bytes) :
    parseFrame (bytes.take 515) bytes.length = some (.linkStatus (wordAt bytes 1 % 4096) (byteAt bytes 3 == 1)) := by
  obtain ⟨hlength, hkind, hstatus⟩ := h
  rcases bytes with _ | ⟨kind, _ | ⟨lo, _ | ⟨hi, _ | ⟨status, _ | ⟨more, rest⟩⟩⟩⟩⟩
  case cons.cons.cons.cons.nil =>
    have htwo : kind = 0x02 := BitVec.eq_of_toNat_eq hkind
    have hone : byteAt [kind, lo, hi, status] 3 = status.toNat := rfl
    rw [hone] at hstatus
    have hcases : status = 0x00 ∨ status = 0x01 := by
      rcases Nat.le_one_iff_eq_zero_or_eq_one.mp hstatus with h0 | h1
      · exact .inl (BitVec.eq_of_toNat_eq h0)
      · exact .inr (BitVec.eq_of_toNat_eq h1)
    rw [htwo]
    rcases hcases with rfl | rfl <;> rfl
  all_goals
    simp only [List.length_cons, List.length_nil] at hlength
    omega

/-- A frame of neither form has no format. -/
theorem parseFrame_of_neither (haudio : ¬IsAudioUp bytes) (hstatus : ¬IsLinkStatus bytes) :
    parseFrame (bytes.take 515) bytes.length = none := by
  cases hp : parseFrame (bytes.take 515) bytes.length with
  | none => rfl
  | some f =>
    unfold parseFrame at hp
    split at hp
    next kind lo hi rest hbuffer =>
      split at hp
      next hone =>
        split at hp
        next seq count data =>
          have hdeclared : bytes.length = if frameMute hi then 5 else 5 + 2 * count.toNat := by
            by_contra hne
            dsimp only at hp
            rw [if_neg hne] at hp
            cases hp
          refine absurd ?_ haudio
          have hlong : 5 ≤ bytes.length := by
            have hlen := congrArg List.length hbuffer
            simp only [List.length_take, List.length_cons] at hlen
            omega
          obtain ⟨kind', lo', hi', seq', count', data', rfl⟩ := exists_five hlong
          simp only [List.take_succ_cons, List.cons.injEq] at hbuffer
          obtain ⟨rfl, rfl, rfl, rfl, rfl, -⟩ := hbuffer
          refine ⟨hlong, congrArg BitVec.toNat hone, ?_⟩
          have hword : wordAt (kind' :: lo' :: hi' :: seq' :: count' :: data') 1 = word16 lo' hi' := rfl
          rw [hword, getLsbD_eq_testBit_word]
          exact hdeclared
        next => cases hp
      next =>
        split at hp
        next htwo =>
          split at hp
          next status =>
            refine absurd ?_ hstatus
            have hfour : bytes = [kind, lo, hi, status] := by
              have hlen := congrArg List.length hbuffer
              simp only [List.length_take, List.length_cons, List.length_nil] at hlen
              rw [← hbuffer, List.take_of_length_le (by omega)]
            subst hfour
            have hle : byteAt [kind, lo, hi, status] 3 ≤ 1 := by
              change status.toNat ≤ 1
              split at hp
              next h => rw [h.2]; decide
              next =>
                split at hp
                next h => rw [h.2]; decide
                next => cases hp
            exact ⟨rfl, congrArg BitVec.toNat htwo, hle⟩
          next => cases hp
        next => cases hp
    next => cases hp

end

/-! ## Frames that are only counted -/

section
variable {s : State}

theorem finish_start (s : State) : (Event.start s).finish = s := handleGroup_nil s

theorem frameArrives_of_unformed {buffer : List Byte} {count : Nat} (h : parseFrame buffer count = none) :
    s.frameArrives buffer count = .start (s.countRadio RadioCounters.formatError) := by
  simp only [State.frameArrives, h]

theorem frameArrives_of_audioUp {buffer : List Byte} {count handle n : Nat} {mute : Bool} {seq : Byte}
    {samples : List Sample} {i : Fin 8} {r : LinkRecord}
    (h : parseFrame buffer count = some (.audioUp handle mute seq n samples)) (hmatch : s.Matches handle i r) :
    s.frameArrives buffer count = s.matchedAudio i r mute seq n samples := by
  have hrecord : s.recordOf handle = some (i, r) := (recordOf_eq_some _ _ _ _).mpr hmatch
  simp only [State.frameArrives, h, hrecord]

theorem frameArrives_of_linkStatus {buffer : List Byte} {count handle : Nat} {up : Bool} {i : Fin 8} {r : LinkRecord}
    (h : parseFrame buffer count = some (.linkStatus handle up)) (hmatch : s.Matches handle i r) :
    s.frameArrives buffer count = s.matchedStatus i r up := by
  have hrecord : s.recordOf handle = some (i, r) := (recordOf_eq_some _ _ _ _).mpr hmatch
  simp only [State.frameArrives, h, hrecord]

theorem frameArrives_of_noMatch {bytes : List Byte} (h : IsAudioUp bytes ∨ IsLinkStatus bytes)
    (hnone : s.NoMatch (wordAt bytes 1 % 4096)) : s.frameArrives (bytes.take 515) bytes.length = s.unmatchedFrame := by
  have hrecord : s.recordOf (wordAt bytes 1 % 4096) = none := (recordOf_eq_none _ _).mpr hnone
  rcases h with haudio | hstatus
  · obtain ⟨mute, seq, samples, hparse⟩ := parseFrame_of_audioUp haudio
    simp only [State.frameArrives, hparse, hrecord]
  · simp only [State.frameArrives, parseFrame_of_linkStatus hstatus, hrecord]

end

end Sys2Proof.Machine
end

section
/-! PROOFS. The radio packet port: the receive checks, accepted frames, Link Status frames and the arbiter (R25 to R44). -/

namespace Sys2Proof.Machine

open Sys2Proof

/-- Settles O21: the checks of R26 in their order, each reached by the frames that passed those before it. -/
theorem receiveChecksCountAndDiscard : Obligations.ReceiveChecksCountAndDiscard := by
  intro row hrow
  simp only [exec_frame hrow]
  refine ⟨fun s bytes => ⟨_, rfl⟩, fun s t first rest ends h => ?_, fun s bytes hphase hwait => ?_,
    fun s bytes hignoring => ?_, fun s hwait => ?_, fun s bytes hready hwait => ?_, fun s begun rest hready h => ?_,
    fun s bytes hready hwait hne => ?_⟩
  · cases h
    rw [receive_receive]
  · have hnone : ∀ b c, s.reception ≠ .receiving b c := fun b c hb => by rw [hwait] at hb; cases hb
    refine ⟨by rw [receive_of_not_ready hphase hnone]; rfl, ?_⟩
    rw [receive_of_not_ready hphase hnone, if_pos rfl, eq_waiting hwait]
  · refine ⟨?_, by rw [receive_of_ignoring hignoring]; rfl⟩
    rw [receive_of_ignoring hignoring, if_neg (by simp), ← hignoring]
  · rw [receive_nothing hwait]
  · exact congrArg Host.Outcome.next (clockIn_of_waiting bytes hready hwait)
  · simp only [State.receive, if_true, clockIn_of_begun hready h]
  · rw [receive_whole hready hwait hne]
    refine ⟨fun haudio hstatus => ?_, fun hform hnone => ?_, fun i r hmatch => ⟨fun haudio hstop => ?_,
      fun haudio hrunning hblock => ?_⟩⟩
    · rw [frameArrives_of_unformed (parseFrame_of_neither haudio hstatus), finish_start]
      rfl
    · rw [frameArrives_of_noMatch hform hnone, State.unmatchedFrame, finish_start]
      rfl
    · obtain ⟨mute, seq, samples, hparse⟩ := parseFrame_of_audioUp haudio
      rw [frameArrives_of_audioUp hparse hmatch, State.matchedAudio, if_pos hstop, finish_start]
      rfl
    · obtain ⟨mute, seq, samples, hparse⟩ := parseFrame_of_audioUp haudio
      rw [frameArrives_of_audioUp hparse hmatch, State.matchedAudio, if_neg hrunning, if_pos hblock, finish_start]
      rfl

/-! ## Accepted frames -/

section
variable {r : LinkRecord} {i : Fin 8} {mute : Bool} {seq : Byte} {samples : List Sample}

theorem takeFrame_of_first (h : r.state = .standby ∨ r.state = .lost) :
    r.takeFrame i mute seq samples = r.firstFrame mute seq samples := by
  rcases h with h | h <;> simp only [LinkRecord.takeFrame, h]

/-- A frame for a PRIMING or LIVE record, by its distance from the expected one. -/
theorem takeFrame_of_running {e : Byte} (hstate : r.state = .priming ∨ r.state = .live) (hexpected : r.expected = some e) :
    r.takeFrame i mute seq samples =
      if (seq - e).toNat ≤ 15 then r.orderedFrame (seq - e).toNat mute seq samples
      else if (seq - e).toNat ≤ 127 then r.resyncFrame i mute seq samples
      else r.staleFrame := by
  rcases hstate with h | h <;> simp only [LinkRecord.takeFrame, h, hexpected, Option.getD_some]

theorem frameBlock_frameSamples (mute : Bool) (block : Nat) (samples : List Sample) :
    frameBlock mute block (frameSamples mute samples) = if mute then List.replicate block 0 else samples := by
  cases mute <;> rfl

theorem lastBlock_frameSamples (mute : Bool) (old : Option (List Sample)) (samples : List Sample) :
    (if mute then old else some (frameSamples mute samples)) = if mute then old else some samples := by
  cases mute <;> rfl

theorem jitterOverflows_eq (r : LinkRecord) (xs : List Sample) :
    r.jitterOverflows xs.length = decide (768 < (r.jitter ++ xs).length) := by
  simp [LinkRecord.jitterOverflows]

end

/-- A step without causes, as the event ends. -/
theorem finish_stepLink {s : State} {i : Fin 8} {p : LinkStep} (h : p.causes = []) :
    ((Event.start s).stepLink i p).finish = { s with
      slots := s.slots.set i (some p.record)
      linkChanges := s.linkChanges.set i (p.changed || s.linkChanges.get i)
      notices := { s.notices with link := p.changed || s.notices.link, queue := p.lossy || s.notices.queue } } := by
  have hnone : ((Event.start s).stepLink i p).causes = [] := h
  rw [Event.finish, hnone, handleGroup_nil, stepLink_st]
  rfl

theorem writeJitter_eq (r : LinkRecord) (xs : List Sample) : r.writeJitter xs =
    { r with
      jitter := newest768 (r.jitter ++ xs)
      counters := { r.counters with overflow := counted r.counters.overflow ((r.jitter ++ xs).length - 768) } } := by
  simp only [LinkRecord.writeJitter, newest768, Config.queueCapacity, satAdd_eq_counted]

/-- Settles O22: a first frame and an ordered one each take one write of the queue and renew the record. -/
theorem acceptedFramesWriteTheJitterQueue : Obligations.AcceptedFramesWriteTheJitterQueue := by
  intro s i r mute seq samples hready hwait hengine hmatch hlen hblock frame block written after queue
  refine ⟨fun hstate => ?_, fun e n hstate hexpected hn hle => ?_⟩ <;>
    rw [exec_audioUpBytes hready hwait hengine hmatch hlen hblock]
  · have hwritten : written 0 = block := List.nil_append _
    rw [takeFrame_of_first hstate, finish_stepLink rfl]
    simp only [LinkRecord.firstFrame, frameBlock_frameSamples, LinkRecord.noteFrame, lastBlock_frameSamples,
      Bool.true_or, writeJitter_eq, satAdd_eq_counted, jitterOverflows_eq, after, queue, hwritten]
    rw [Bool.or_comm s.notices.queue]
  · rw [takeFrame_of_running hstate hexpected, hn, if_pos hle, finish_stepLink rfl]
    have hwritten : written n = ((List.range n).flatMap fun j => r.concealment (j + 1)) ++ block := by
      cases hlast : r.lastBlock <;> simp only [written, LinkRecord.concealment, hlast]
    simp only [LinkRecord.orderedFrame, frameBlock_frameSamples, LinkRecord.noteFrame, lastBlock_frameSamples,
      Bool.false_or, Bank.set_get, writeJitter_eq, satAdd_eq_counted, jitterOverflows_eq, after, queue, hwritten]
    rw [Bool.or_comm s.notices.queue]

/-- A write that fits an empty queue leaves its own samples alone, and loses none. -/
theorem writeJitter_of_empty {r : LinkRecord} {xs : List Sample} (hempty : r.jitter = []) (hfits : xs.length ≤ 768)
    (hoverflow : r.counters.overflow ≤ 65535) : r.writeJitter xs = { r with jitter := xs } := by
  have hzero : xs.length - 768 = 0 := by omega
  have hkept : counted r.counters.overflow 0 = r.counters.overflow := min_eq_right hoverflow
  rw [writeJitter_eq, newest768, hempty, List.nil_append, hzero, hkept]
  rfl

/-- A resync of a record, once its queue is emptied and its block written. -/
theorem resyncFrame_eq {r : LinkRecord} (i : Fin 8) {mute : Bool} (seq : Byte) {samples : List Sample}
    (hlen : samples.length = r.config.blockLength) (hblock : r.config.blockLength ≤ 255)
    (hoverflow : r.counters.overflow ≤ 65535) :
    r.resyncFrame i mute seq (frameSamples mute samples) =
      { record :=
          (if r.state = LinkState.live then
            { r.hush with
              state := .priming, downlink := [], jitter := if mute then List.replicate r.config.blockLength 0 else samples }
          else { r with jitter := if mute then List.replicate r.config.blockLength 0 else samples }).noteFrame mute seq
            (frameSamples mute samples)
        changed := r.state == .live
        lossy := true
        causes := departureCauses r i } := by
  have hfits : (if mute then List.replicate r.config.blockLength (0 : Sample) else samples).length ≤ 768 := by
    split
    · rw [List.length_replicate]
      omega
    · omega
  rw [LinkRecord.resyncFrame, departure_eq]
  split
  · rw [frameBlock_frameSamples, writeJitter_of_empty ?_ hfits ?_]
    · rfl
    · exact hoverflow
  · rw [frameBlock_frameSamples, writeJitter_of_empty ?_ hfits ?_]
    · rfl
    · exact hoverflow

/-- Settles O23: the queue is emptied before the write, so that nothing of the frame is discarded. -/
theorem resyncFlushesAndPrimes : Obligations.ResyncFlushesAndPrimes := by
  intro s i r e mute seq samples hready hwait hengine hmatch hlen hblock hoverflow hexpected hlow hhigh frame after
  have hstep : ∀ hstate : r.state = .priming ∨ r.state = .live,
      r.takeFrame i mute seq (frameSamples mute samples) = r.resyncFrame i mute seq (frameSamples mute samples) := by
    intro hstate
    rw [takeFrame_of_running hstate hexpected, if_neg (by omega), if_pos hhigh]
  refine ⟨fun hstate => ?_, fun hstate => ?_⟩ <;>
    rw [exec_audioUpBytes hready hwait hengine hmatch hlen hblock]
  · have hcauses : departureCauses r i = [] := by simp [departureCauses, hstate]
    rw [hstep (.inl hstate), resyncFrame_eq i seq hlen hblock hoverflow, finish_stepLink hcauses]
    simp only [hstate, LinkRecord.noteFrame, lastBlock_frameSamples, satAdd_eq_counted, after]
    have hkept : s.linkChanges.set i (LinkState.priming == LinkState.live || s.linkChanges.get i) = s.linkChanges :=
      s.linkChanges.set_get i
    simp [hkept]
  · rw [hstep (.inr hstate), resyncFrame_eq i seq hlen hblock hoverflow, Event.finish, stepLink_causes, stepLink_st]
    simp only [hstate, if_true, LinkRecord.hush, LinkRecord.noteFrame, lastBlock_frameSamples, satAdd_eq_counted, after]
    rfl

/-- Settles O25: a Link Status frame is four bytes, and DOWN alone acts, on a record that runs. -/
theorem linkStatusDownLosesTheLink : Obligations.LinkStatusDownLosesTheLink := by
  intro s i r lo hi status hready hwait hle hmatch
  have hform : IsLinkStatus [0x02, lo, hi, status] := ⟨rfl, rfl, hle⟩
  have hparse := parseFrame_of_linkStatus hform
  have hup : (byteAt [0x02, lo, hi, status] 3 == 1) = (status == 1) := by
    change (status.toNat == 1) = _
    rw [Bool.eq_iff_iff, beq_iff_eq, beq_iff_eq]
    exact ⟨fun h => BitVec.eq_of_toNat_eq h, fun h => congrArg BitVec.toNat h⟩
  have hmatch' : s.Matches (wordAt [0x02, lo, hi, status] 1 % 4096) i r := hmatch
  rw [exec_frame (.inr rfl), receive_whole hready hwait (by simp), frameArrives_of_linkStatus hparse hmatch', hup]
  refine ⟨fun hquiet => ?_, fun hdown hrunning => ?_⟩
  · have hidle : ¬((status == 1) = false ∧ (r.state = .priming ∨ r.state = .live)) := by
      rintro ⟨hdown, hrunning⟩
      rcases hquiet with rfl | hstate | hstate
      · cases hdown
      · rcases hrunning with h | h <;> rw [hstate] at h <;> cases h
      · rcases hrunning with h | h <;> rw [hstate] at h <;> cases h
    rw [State.matchedStatus, if_neg hidle, finish_start]
    rfl
  · rw [State.matchedStatus, if_pos ⟨by rw [hdown]; rfl, hrunning⟩, ← departure_eq]
    rfl

/-! ## Queues -/

/-- Settles O26: a jitter write drops from the front, a downlink write from the end, what passes 768. -/
theorem queuesKeepTheNewestAndTheOldestSamples : Obligations.QueuesKeepTheNewestAndTheOldestSamples := by
  intro r xs
  refine ⟨⟨(r.jitter ++ xs).take ((r.jitter ++ xs).length - 768), (r.jitter ++ xs).drop ((r.jitter ++ xs).length - 768),
    (List.take_append_drop _ _).symm, ?_, ?_, ?_⟩, fun hle => ⟨xs.take (768 - r.downlink.length),
    xs.drop (768 - r.downlink.length), (List.take_append_drop _ _).symm, ?_, ?_, ?_⟩⟩
  · simp only [List.length_drop, List.length_append]
    omega
  · have hlost : ((r.jitter ++ xs).take ((r.jitter ++ xs).length - 768)).length = (r.jitter ++ xs).length - 768 := by
      rw [List.length_take]
      omega
    rw [hlost]
    rfl
  · rw [LinkRecord.jitterOverflows, decide_eq_true_eq, ← List.length_pos_iff, List.length_take, List.length_append,
      Config.queueCapacity]
    omega
  · simp only [List.length_append, List.length_take]
    omega
  · rw [List.length_drop]
    rfl
  · rw [LinkRecord.downlinkOverflows, decide_eq_true_eq, ← List.length_pos_iff, List.length_drop, Config.queueCapacity]
    omega

/-! ## The arbiter -/

theorem slotReady_iff (o : Option LinkRecord) : slotReady o = true ↔
    ∃ r, o = some r ∧ r.state = .live ∧ r.config.blockLength ≤ r.downlink.length := by
  simp [slotReady, Option.any_eq_true]

theorem downComplete_of_sending {s : State} {f : DownFrame} (h : s.sending = some f) :
    s.downComplete = s.downSent.arbitrate := by
  simp only [State.downComplete, h]
  rfl

/-- The arbiter with no ready link. -/
theorem arbitrate_of_none {s : State} (h : ∀ i, slotReady (s.slots.get i) = false) : s.arbitrate = s := by
  unfold State.arbitrate
  split
  · rfl
  · have hnone : ((arbiterOrder s.arbiter).find? fun i => slotReady (s.slots.get i)) = none := by
      rw [List.find?_eq_none]
      exact fun i _ => by rw [h i]; simp
    rw [hnone]

/-- The arbiter, idle, with a ready link: the first after its pointer. -/
theorem arbitrate_of_ready {s : State} {k : Fin 8} {r : LinkRecord} (hidle : s.sending = none)
    (hbefore : ∀ j < k, slotReady (s.slots.get (s.arbiter + 1 + j)) = false)
    (hready : slotReady (s.slots.get (s.arbiter + 1 + k)) = true) (hr : s.slots.get (s.arbiter + 1 + k) = some r) :
    s.arbitrate = s.serve (s.arbiter + 1 + k) r := by
  have hfind : ((arbiterOrder s.arbiter).find? fun i => slotReady (s.slots.get i)) = some (s.arbiter + 1 + k) := by
    have hk : ((List.finRange 8).find? fun j => slotReady (s.slots.get (s.arbiter + 1 + j))) = some k :=
      (Bank.find?_eq_some (Bank.ofFn fun j => s.slots.get (s.arbiter + 1 + j)) slotReady k).mpr
        ⟨by rwa [Bank.get_ofFn], fun j hj => by rw [Bank.get_ofFn]; exact hbefore j hj⟩
    rw [arbiterOrder, List.find?_map, Function.comp_def, hk]
    rfl
  unfold State.arbitrate
  rw [hidle, if_neg (by simp), hfind]
  simp only [hr]

/-- Settles O27: the indices are tried from the pointer on, and the first ready one is served. -/
theorem theArbiterServesTheNextReadyLink : Obligations.TheArbiterServesTheNextReadyLink := by
  intro s f hready hsending ready sent
  have hexec : exec .audioDownComplete s = .next s.downSent.arbitrate := by
    refine congrArg Host.Outcome.next ?_
    rw [whenReady_of_ready _ _ hready, downComplete_of_sending hsending]
  have hslots : ∀ i, slotReady (s.downSent.slots.get i) = true ↔ ready i := fun i => slotReady_iff _
  have hnot : ∀ i, ¬ready i → slotReady (s.downSent.slots.get i) = false := fun i h => by
    rw [← Bool.not_eq_true]
    exact fun ht => h ((hslots i).mp ht)
  refine ⟨fun hnone => ?_, fun k r hbefore hk hr => ?_⟩
  · rw [hexec, arbitrate_of_none fun i => hnot i (hnone i)]
    rfl
  · rw [hexec, arbitrate_of_ready (s := s.downSent) (k := k) rfl (fun j hj => hnot _ (hbefore j hj)) ((hslots _).mpr hk) hr]
    rfl

end Sys2Proof.Machine
end

section
/-! SUPPORT. Gain designators as codes, and what each write of the gains writes (R102, R107 to R116, section 11.2). -/

namespace Sys2Proof.Machine

open Sys2Proof

/-! ## Writes of one gain -/

section
variable {g : Gains} {name : GainName} {x : Gain}

theorem writesOnly_modify (h : g.get? name = some x) (f : Gain → Gain) : g.WritesOnly name (f x) (g.modify name f) where
  named := by rw [get?_modify_self, h, Option.map_some]
  others _ hother := get?_modify_ne g f hother
  ceiling := modify_ceiling g name f

theorem writesOnly_writeTarget (h : g.get? name = some x) (target : Nat) (step : Option Nat) :
    g.WritesOnly name
      { x with target := if name.isOwn then min target g.ceiling else target, step := step.getD x.step }
      (g.writeTarget name target step) :=
  writesOnly_modify h fun x => { x with target := g.storedTarget name target, step := step.getD x.step }

theorem writesOnly_fade (h : g.get? name = some x) : g.WritesOnly name { x with target := 0 } (g.fade name) :=
  writesOnly_modify h fun x => { x with target := 0 }

theorem writesOnly_cut (h : g.get? name = some x) : g.WritesOnly name { x with current := 0, target := 0 } (g.cut name) :=
  writesOnly_modify h fun x => { x with current := 0, target := 0 }

theorem writesOnly_stepLevel {o : Output} (h : g.get? (.level o) = some x) (d : Direction) (amount : Nat) :
    g.WritesOnly (.level o) { x with target := stepped d amount x.target } (g.stepLevel o d amount) :=
  writesOnly_modify h fun x => { x with target := stepped d amount x.target }

/-- The body of a gain's three fields. -/
theorem gainsBody_of_get (h : g.get? name = some x) : g.body name = gainBytes x := by
  simp only [Gains.body, h]
  rfl

theorem isFixed_eq_true : name.isFixed = true ↔ name = .cell .uplink .far := by
  rcases name with ⟨_ | d, _ | t⟩ | (_ | d) <;> simp [GainName.isFixed]

theorem isFixed_of_get (h : g.get? name = some x) : name.isFixed = false := by
  have hsome := get?_isSome g name
  rw [h] at hsome
  simpa using hsome

end

/-! ## Designators -/

theorem output_ofCode_iff (v : Nat) (o : Output) : Output.ofCode v = some o ↔ o.code = v := by
  unfold Output.ofCode
  cases v with
  | zero => cases o <;> simp [Output.code]
  | succ v =>
    cases o with
    | uplink => simp [Output.code, Option.map_eq_some_iff]
    | down d => simp [Output.code, Option.map_eq_some_iff, index?_eq_some]

theorem source_ofCode_iff (v : Nat) (src : Source) : Source.ofCode v = some src ↔ src.code = v := by
  unfold Source.ofCode
  cases v with
  | zero => cases src <;> simp [Source.code]
  | succ v =>
    cases src with
    | far => simp [Source.code, Option.map_eq_some_iff]
    | voice t => simp [Source.code, Option.map_eq_some_iff, index?_eq_some]

theorem output_code_le (o : Output) : o.code ≤ 4 := by
  cases o with
  | uplink => exact Nat.zero_le 4
  | down d => simp only [Output.code]; omega

theorem source_code_le (src : Source) : src.code ≤ 4 := by
  cases src with
  | far => exact Nat.zero_le 4
  | voice t => simp only [Source.code]; omega

theorem ofNat_eq_iff {v : Nat} (hv : v < 256) (b : Byte) : BitVec.ofNat 8 v = b ↔ b.toNat = v := by
  constructor
  · rintro rfl
    rw [BitVec.toNat_ofNat, Nat.mod_eq_of_lt hv]
  · rintro rfl
    exact BitVec.eq_of_toNat_eq (by rw [BitVec.toNat_ofNat, Nat.mod_eq_of_lt b.isLt])

/-- Two bytes designate the gain whose codes they are. -/
theorem ofCodes_iff (output source : Byte) (g : GainName) :
    GainName.ofCodes output.toNat source.toNat = some g ↔ g.codes = [output, source] := by
  have hcodes : ∀ (o : Output) (v : Nat), v < 256 →
      (byte1 o.code ++ byte1 v = [output, source] ↔ output.toNat = o.code ∧ source.toNat = v) := by
    intro o v hv
    have ho := output_code_le o
    change [BitVec.ofNat 8 o.code, BitVec.ofNat 8 v] = [output, source] ↔ _
    rw [List.cons.injEq, List.cons.injEq, ofNat_eq_iff (by omega), ofNat_eq_iff hv]
    simp
  simp only [GainName.ofCodes, Option.bind_eq_some_iff, output_ofCode_iff]
  cases g with
  | cell o src =>
    have hsrc := source_code_le src
    rw [GainName.codes, hcodes o src.code (by omega)]
    constructor
    · rintro ⟨o', ho', hsource⟩
      split at hsource
      · cases hsource
      · obtain ⟨src', hsrc', hcell⟩ := Option.map_eq_some_iff.mp hsource
        cases hcell
        exact ⟨ho'.symm, ((source_ofCode_iff _ _).mp hsrc').symm⟩
    · rintro ⟨ho, hs⟩
      refine ⟨o, ho.symm, ?_⟩
      rw [if_neg (by omega), hs, (source_ofCode_iff _ src).mpr rfl, Option.map_some]
  | level o =>
    rw [GainName.codes, hcodes o 0xFF (by omega)]
    constructor
    · rintro ⟨o', ho', hsource⟩
      split at hsource
      next h => cases hsource; exact ⟨ho'.symm, h⟩
      · obtain ⟨_, -, hcell⟩ := Option.map_eq_some_iff.mp hsource
        cases hcell
    · rintro ⟨ho, hs⟩
      exact ⟨o, ho.symm, by rw [if_pos hs]⟩

/-- Bytes that are no output or no source designate nothing. -/
theorem ofCodes_of_unknown {output source : Byte} (h : 4 < output.toNat ∨ (4 < source.toNat ∧ source ≠ 0xFF)) :
    GainName.ofCodes output.toNat source.toNat = none := by
  cases hg : GainName.ofCodes output.toNat source.toNat with
  | none => rfl
  | some g =>
    exfalso
    obtain ⟨o, ho, hsource⟩ := Option.bind_eq_some_iff.mp hg
    have hout := output_code_le o
    rw [(output_ofCode_iff _ _).mp ho] at hout
    rcases h with h | ⟨hhigh, hne⟩
    · omega
    · split at hsource
      next hff => exact hne (BitVec.eq_of_toNat_eq hff)
      · obtain ⟨src, hsrc, -⟩ := Option.map_eq_some_iff.mp hsource
        have hle := source_code_le src
        rw [(source_ofCode_iff _ _).mp hsrc] at hle
        omega

theorem exists_ofCodes {output source : Byte} (h : ¬(4 < output.toNat ∨ (4 < source.toNat ∧ source ≠ 0xFF))) :
    ∃ g, GainName.ofCodes output.toNat source.toNat = some g := by
  push Not at h
  obtain ⟨hout, hsource⟩ := h
  have hoc : ∀ v : Nat, v ≤ 4 → ∃ o, Output.ofCode v = some o := by
    intro v hv
    interval_cases v <;> exact ⟨_, rfl⟩
  have hsc : ∀ v : Nat, v ≤ 4 → ∃ src, Source.ofCode v = some src := by
    intro v hv
    interval_cases v <;> exact ⟨_, rfl⟩
  obtain ⟨o, ho⟩ := hoc _ hout
  rw [GainName.ofCodes, ho, Option.bind_some]
  by_cases hff : source = 0xFF
  · exact ⟨.level o, by rw [hff]; rfl⟩
  · have hle : source.toNat ≤ 4 := by
      by_contra hgt
      exact hff (hsource (by omega))
    obtain ⟨src, hsrc⟩ := hsc _ hle
    exact ⟨.cell o src, by rw [if_neg (by omega), hsrc, Option.map_some]⟩

theorem designator_of_unknown {output source : Byte} (h : 4 < output.toNat ∨ (4 < source.toNat ∧ source ≠ 0xFF)) :
    designator output.toNat source.toNat = .error .badValue := by
  simp only [designator, ofCodes_of_unknown h]

theorem designator_fixed : designator (0 : Byte).toNat (0 : Byte).toNat = .error .badCell := rfl

/-- Two bytes that name a ramped gain. -/
theorem designator_of_codes {output source : Byte} {g : GainName} (hcodes : g.codes = [output, source])
    (hfixed : g.isFixed = false) : designator output.toNat source.toNat = .ok g := by
  simp only [designator, (ofCodes_iff output source g).mpr hcodes, hfixed, Bool.false_eq_true, if_false]

/-- The codes of a gain are two bytes. -/
theorem exists_codes (g : GainName) : ∃ output source, g.codes = [output, source] := by
  cases g <;> exact ⟨_, _, rfl⟩

end Sys2Proof.Machine
end

section
/-! PROOFS. The gain requests, SET SIDETONE CEILING, and the cue actions' writes (R102 to R116, R164). -/

namespace Sys2Proof.Machine

open Sys2Proof

section
variable {s : State} {tag : Byte}

theorem exec_fade_of_holds {output source : Byte} (h : s.Holds 0x09 tag [output, source]) :
    exec .fade s = .next ((fadeGain s (output.toNat, source.toNat)).answer 0x09 tag) :=
  congrArg Host.Outcome.next (takeRequest_of_holds bodyPair fadeGain h (by simp) rfl)

theorem exec_cut_of_holds {output source : Byte} (h : s.Holds 0x0A tag [output, source]) :
    exec .cut s = .next ((cutGain s (output.toNat, source.toNat)).answer 0x0A tag) :=
  congrArg Host.Outcome.next (takeRequest_of_holds bodyPair cutGain h (by simp) rfl)

theorem exec_stepGain_of_holds {seat direction : Byte} (h : s.Holds 0x0B tag [seat, direction]) :
    exec .stepGain s = .next ((stepGain s (seat.toNat, direction.toNat)).answer 0x0B tag) :=
  congrArg Host.Outcome.next (takeRequest_of_holds bodyPair stepGain h (by simp) rfl)

theorem exec_readGain_of_holds {output source : Byte} (h : s.Holds 0x0C tag [output, source]) :
    exec .readGain s = .next ((readGain s (output.toNat, source.toNat)).answer 0x0C tag) :=
  congrArg Host.Outcome.next (takeRequest_of_holds bodyPair readGain h (by simp) rfl)

theorem exec_setCeiling_of_holds {low high : Byte} (h : s.Holds 0x0D tag [low, high]) :
    exec .setSidetoneCeiling s = .next ((setCeiling s (low.toNat + 256 * high.toNat)).answer 0x0D tag) :=
  congrArg Host.Outcome.next (takeRequest_of_holds bodyWord setCeiling h (by simp) rfl)

/-- The last two bytes of a SET GAIN body, as the body says a ramp step or none. -/
def givenBytes : Option (Byte × Byte) → List Byte
  | some p => [p.1, p.2]
  | none => []

theorem exec_setGain_of_holds {output source low high : Byte} {given : Option (Byte × Byte)}
    (h : s.Holds 0x08 tag ([output, source, low, high] ++ givenBytes given)) :
    exec .setGain s = .next ((setGain s ⟨output.toNat, source.toNat, low.toNat + 256 * high.toNat,
      given.map fun p => p.1.toNat + 256 * p.2.toNat⟩).answer 0x08 tag) := by
  cases given with
  | none => exact congrArg Host.Outcome.next (takeRequest_of_holds bodySetGain setGain h (by simp [givenBytes]) rfl)
  | some p => exact congrArg Host.Outcome.next (takeRequest_of_holds bodySetGain setGain h (by simp [givenBytes]) rfl)

/-- What a gain request answers: the gains written and the named gain as stored. -/
theorem gainReply_answer {after : Gains} {name : GainName} {x : Gain} (h : after.get? name = some x) (code tag : Byte) :
    (s.gainReply after name).answer code tag = State.responded { s with gains := after } code tag .ok (gainBytes x) := by
  rw [answer_of_no_causes _ _ _ rfl, State.gainReply, gainsBody_of_get h]

theorem setGain_of_error {b : SetGainBody} {e : Status} (h : designator b.output b.source = .error e) :
    setGain s b = refuse s e := by
  simp only [setGain, h]

theorem setGain_of_ok {b : SetGainBody} {g : GainName} (h : designator b.output b.source = .ok g) :
    setGain s b = if b.inRange then s.gainReply (s.gains.writeTarget g b.target b.step) g else refuse s .badValue := by
  simp only [setGain, h]

theorem inRange_iff (output source target : Nat) (step : Option Nat) :
    SetGainBody.inRange ⟨output, source, target, step⟩ = true ↔
      target ≤ 32767 ∧ ∀ r, step = some r → r ≠ 0 ∧ r ≤ 32767 := by
  unfold SetGainBody.inRange
  cases step with
  | none => simp [Config.gainMax]
  | some r =>
    simp only [Config.gainMax, Bool.and_eq_true, decide_eq_true_eq, Option.some.injEq, forall_eq']
    omega

end

/-- A designator, and the bytes a SET GAIN body holds behind it. -/
theorem exists_givenBytes {more : List Byte} (h : more.length = 2 ∨ more.length = 4) :
    ∃ low high given, more = [low, high] ++ givenBytes given := by
  rcases more with _ | ⟨low, _ | ⟨high, _ | ⟨rlow, _ | ⟨rhigh, _ | ⟨_, _⟩⟩⟩⟩⟩ <;> simp at h
  · exact ⟨low, high, none, rfl⟩
  · exact ⟨low, high, some (rlow, rhigh), rfl⟩

/-- Settles O30: the designator is looked up before anything else. -/
theorem designatorsNameGainsAndReadGain : Obligations.DesignatorsNameGainsAndReadGain := by
  refine ⟨fun g => ?_, fun g => ?_, fun s tag output source => ?_⟩
  · rcases g with ⟨_ | d, _ | t⟩ | (_ | d) <;> simp [GainName.isOwn]
    exact ⟨fun h => h.symm, fun h => h.symm⟩
  · rcases g with ⟨_ | d, _ | t⟩ | (_ | d) <;> rfl
  intro unknown refuses
  have hzero : output = 0 → source = 0 → designator output.toNat source.toNat = .error .badCell := by
    rintro rfl rfl
    exact designator_fixed
  refine ⟨fun more hmore h => ?_, fun h => ?_, fun h => ?_, fun h => ?_, fun hknown hcell => ?_, fun g x hcodes hx h => ?_⟩
  · obtain ⟨low, high, given, rfl⟩ := exists_givenBytes hmore
    rw [exec_setGain_of_holds h]
    refine ⟨fun hunknown => ?_, fun ho hs => ?_⟩
    · rw [setGain_of_error (designator_of_unknown hunknown), answer_refuse]
    · rw [setGain_of_error (hzero ho hs), answer_refuse]
  · rw [exec_fade_of_holds h]
    refine ⟨fun hunknown => ?_, fun ho hs => ?_⟩
    · simp only [fadeGain, designator_of_unknown hunknown, answer_refuse]
    · simp only [fadeGain, hzero ho hs, answer_refuse]
  · rw [exec_cut_of_holds h]
    refine ⟨fun hunknown => ?_, fun ho hs => ?_⟩
    · simp only [cutGain, designator_of_unknown hunknown, answer_refuse]
    · simp only [cutGain, hzero ho hs, answer_refuse]
  · rw [exec_readGain_of_holds h]
    refine ⟨fun hunknown => ?_, fun ho hs => ?_⟩
    · simp only [readGain, designator_of_unknown hunknown, answer_refuse]
    · simp only [readGain, hzero ho hs, answer_refuse]
  · obtain ⟨g, hg⟩ := exists_ofCodes hknown
    have hcodes := (ofCodes_iff output source g).mp hg
    have hfixed : g.isFixed = false := by
      rw [← Bool.not_eq_true, isFixed_eq_true]
      rintro rfl
      have hzeros : [(0 : Byte), 0] = [output, source] := hcodes
      simp only [List.cons.injEq, and_true] at hzeros
      exact hcell ⟨hzeros.1.symm, hzeros.2.symm⟩
    have hsome := get?_isSome s.gains g
    rw [hfixed] at hsome
    obtain ⟨x, hx⟩ := Option.isSome_iff_exists.mp hsome
    exact ⟨g, x, hcodes, hx⟩
  · rw [exec_readGain_of_holds h]
    simp only [readGain, designator_of_codes hcodes (isFixed_of_get hx)]
    rw [answer_of_no_causes _ _ _ rfl, gainsBody_of_get hx, byte1_flagCode]

/-- Settles O31: one write, of the target and the given step. -/
theorem setGainWritesTargetAndStep : Obligations.SetGainWritesTargetAndStep := by
  intro s tag g x low high given hx h target ramp wrong stored
  obtain ⟨output, source, hcodes⟩ := exists_codes g
  have h : s.Holds 0x08 tag ([output, source, low, high] ++ givenBytes given) := by
    rw [hcodes] at h
    cases given <;> exact h
  have hwrong : wrong ↔ ¬(target ≤ 32767 ∧ ∀ r, ramp = some r → r ≠ 0 ∧ r ≤ 32767) := by
    rw [not_and_or, not_le, not_forall]
    refine or_congr_right (exists_congr fun r => ?_)
    rw [Classical.not_imp]
    refine and_congr_right fun _ => ?_
    omega
  rw [exec_setGain_of_holds h, setGain_of_ok (designator_of_codes hcodes (isFixed_of_get hx))]
  refine ⟨fun hw => ?_, fun hright => ?_⟩
  · rw [if_neg fun hin => hwrong.mp hw ((inRange_iff ..).mp hin), answer_refuse]
  · have hwrites := writesOnly_writeTarget hx target ramp
    refine ⟨_, hwrites, ?_⟩
    rw [if_pos ((inRange_iff ..).mpr (not_not.mp fun hn => hright (hwrong.mpr hn))), gainReply_answer hwrites.named]

/-- Settles O32: each of the three is one write of one gain. -/
theorem fadeCutAndStepGain : Obligations.FadeCutAndStepGain := by
  refine ⟨fun s tag g x hx => ?_, fun s tag seat direction h => ?_⟩
  · obtain ⟨output, source, hcodes⟩ := exists_codes g
    have hok := designator_of_codes hcodes (isFixed_of_get hx)
    rw [hcodes]
    refine ⟨fun h => ⟨_, writesOnly_fade hx, ?_⟩, fun h => ⟨_, writesOnly_cut hx, ?_⟩⟩
    · rw [exec_fade_of_holds h]
      simp only [fadeGain, hok, gainReply_answer (writesOnly_fade hx).named]
    · rw [exec_cut_of_holds h]
      simp only [cutGain, hok, gainReply_answer (writesOnly_cut hx).named]
  · rw [exec_stepGain_of_holds h]
    refine ⟨fun habove => ?_, fun hseat hdirection => ?_, fun i x hi hx => ⟨fun hup => ?_, fun hdown => ?_⟩⟩
    · have hnone : index? 4 seat.toNat = none := index?_eq_none.mpr habove
      simp only [stepGain, hnone, answer_refuse]
    · obtain ⟨i, hi⟩ : ∃ i : Fin 4, i.val = seat.toNat := ⟨⟨seat.toNat, by omega⟩, rfl⟩
      have hdir : Direction.ofCode direction.toNat = none := by
        obtain ⟨k, hk⟩ : ∃ k, direction.toNat = k + 2 := ⟨direction.toNat - 2, by omega⟩
        rw [hk]
        rfl
      simp only [stepGain, index?_eq_some.mpr hi, hdir, answer_refuse]
    · have hwrites := writesOnly_stepLevel hx .up (s.seats.get i).stepSize
      refine ⟨_, hwrites, ?_⟩
      have hdir : Direction.ofCode direction.toNat = some .up := by rw [hup]; rfl
      simp only [stepGain, index?_eq_some.mpr hi, hdir, gainReply_answer hwrites.named]
      rfl
    · have hwrites := writesOnly_stepLevel hx .down (s.seats.get i).stepSize
      refine ⟨_, hwrites, ?_⟩
      have hdir : Direction.ofCode direction.toNat = some .down := by rw [hdown]; rfl
      simp only [stepGain, index?_eq_some.mpr hi, hdir, gainReply_answer hwrites.named]
      rfl

theorem byte2_word (low high : Byte) : byte2 (low.toNat + 256 * high.toNat) = [low, high] := by
  have hlow := low.isLt
  have hhigh := high.isLt
  change [BitVec.ofNat 8 (low.toNat + 256 * high.toNat), BitVec.ofNat 8 ((low.toNat + 256 * high.toNat) / 256)] = _
  congr 1
  · apply BitVec.eq_of_toNat_eq
    rw [BitVec.toNat_ofNat]
    omega
  · congr 1
    apply BitVec.eq_of_toNat_eq
    rw [BitVec.toNat_ofNat]
    omega

/-- Settles O33: a new ceiling clamps the own-voice cells where it is lower than the old one. -/
theorem sidetoneCeilingClampsTheOwnVoiceCells : Obligations.SidetoneCeilingClampsTheOwnVoiceCells := by
  intro s tag low high h c
  rw [exec_setCeiling_of_holds h]
  refine ⟨fun habove => ?_, fun hle => ⟨s.gains.setCeiling c, rfl, fun g x hx => ?_, ?_⟩⟩
  · have hnot : ¬c ≤ Config.ceilingMax := not_le.mpr habove
    rw [setCeiling, if_neg hnot, answer_refuse]
  · rw [get?_setCeiling, hx, Option.map_some]
    rfl
  · have hin : c ≤ Config.ceilingMax := hle
    rw [setCeiling, if_pos hin, answer_of_no_causes _ _ _ rfl, byte2_word]

/-- Settles O38: each action is one write, by the rules of the gains, the timers and the seats. -/
theorem cueActionsWriteAsTheTableSays : Obligations.CueActionsWriteAsTheTableSays := by
  intro s
  refine ⟨rfl, fun g x v hx => ⟨_, writesOnly_writeTarget hx v none, rfl⟩, fun g x hx => ⟨_, writesOnly_fade hx, rfl⟩,
    fun g x hx => ⟨_, writesOnly_cut hx, rfl⟩, fun o x amount hx hamount => ?_, fun i => rfl, fun i => rfl, fun i side => ?_⟩
  · have hstep : s.stepAmount o = amount := by
      rcases hamount with ⟨rfl, rfl⟩ | ⟨i, rfl, rfl⟩ <;> rfl
    subst hstep
    exact ⟨⟨_, writesOnly_stepLevel hx .up _, rfl⟩, ⟨_, writesOnly_stepLevel hx .down _, rfl⟩⟩
  · simp only [State.act, State.onSeat, SeatRecord.writeMode, @eq_comm _ (SeatMode.prefer side)]

end Sys2Proof.Machine
end

section
/-! SUPPORT. What the seat and timer requests do with a body in hand, and the READ SEAT and READ TIMER bodies as tables
of fields (R85, R86, R157 to R159, section 11.2). -/

namespace Sys2Proof.Machine

open Sys2Proof

section
variable {s : State} {tag : Byte}

theorem exec_setSeat_of_holds {seat mode fade holdLo holdHi stepLo stepHi : Byte}
    (h : s.Holds 0x06 tag [seat, mode, fade, holdLo, holdHi, stepLo, stepHi]) :
    exec .setSeat s = .next ((setSeat s ⟨seat.toNat, mode.toNat, fade.toNat, holdLo.toNat + 256 * holdHi.toNat,
      stepLo.toNat + 256 * stepHi.toNat⟩).answer 0x06 tag) :=
  congrArg Host.Outcome.next (takeRequest_of_holds bodySeat setSeat h (by simp) rfl)

theorem exec_readSeat_of_holds {seat : Byte} (h : s.Holds 0x07 tag [seat]) :
    exec .readSeat s = .next ((readSeat s seat.toNat).answer 0x07 tag) :=
  congrArg Host.Outcome.next (takeRequest_of_holds bodyByte readSeat h (by simp) rfl)

theorem exec_loadTimer_of_holds {index low high mode source : Byte} (h : s.Holds 0x0E tag [index, low, high, mode, source]) :
    exec .loadTimer s = .next ((loadTimer s ⟨index.toNat, low.toNat + 256 * high.toNat, mode.toNat,
      source.toNat⟩).answer 0x0E tag) :=
  congrArg Host.Outcome.next (takeRequest_of_holds bodyLoad loadTimer h (by simp) rfl)

theorem exec_startTimer_of_holds {index : Byte} (h : s.Holds 0x0F tag [index]) :
    exec .startTimer s = .next ((startTimer s index.toNat).answer 0x0F tag) :=
  congrArg Host.Outcome.next (takeRequest_of_holds bodyByte startTimer h (by simp) rfl)

theorem exec_stopTimer_of_holds {index : Byte} (h : s.Holds 0x10 tag [index]) :
    exec .stopTimer s = .next ((stopTimer s index.toNat).answer 0x10 tag) :=
  congrArg Host.Outcome.next (takeRequest_of_holds bodyByte stopTimer h (by simp) rfl)

theorem exec_readTimer_of_holds {index : Byte} (h : s.Holds 0x11 tag [index]) :
    exec .readTimer s = .next ((readTimer s index.toNat).answer 0x11 tag) :=
  congrArg Host.Outcome.next (takeRequest_of_holds bodyByte readTimer h (by simp) rfl)

end

/-! ## Codes -/

theorem seatMode_ofCode_iff (v : Nat) (m : SeatMode) : SeatMode.ofCode v = some m ↔ m.code = v := by
  rcases m with (_ | _) | (_ | _) <;> rcases v with _ | _ | _ | _ | v <;> simp [SeatMode.ofCode, SeatMode.code]

theorem seatMode_code_lt (m : SeatMode) : m.code < 4 := by rcases m with (_ | _) | (_ | _) <;> decide

theorem voiceCode_lt (v : Option Side) : voiceCode v < 256 := by rcases v with _ | _ | _ <;> decide

theorem activity_code_lt (a : Activity) : a.code < 2 := by cases a <;> decide

/-! ## The READ SEAT body -/

/-- The record on a side of a seat, with its index. -/
def State.sideRecord (s : State) (seat : Fin 4) (side : Side) : Option (Fin 8 × LinkRecord) :=
  (holder s.slots seat side).bind fun i => (s.slots.get i).map fun r => (i, r)

theorem sideRecord_of_none {s : State} {seat : Fin 4} {side : Side}
    (h : ∀ j r, s.slots.get j = some r → ¬(r.config.seat = seat ∧ r.config.side = side)) :
    s.sideRecord seat side = none := by
  rw [State.sideRecord, (holder_eq_none ..).mpr h, Option.bind_none]

theorem sideRecord_of_lowest {s : State} {seat : Fin 4} {side : Side} {j : Fin 8} {r : LinkRecord}
    (hr : s.slots.get j = some r) (hseat : r.config.seat = seat) (hside : r.config.side = side)
    (hlow : ∀ k < j, ∀ q, s.slots.get k = some q → ¬(q.config.seat = seat ∧ q.config.side = side)) :
    s.sideRecord seat side = some (j, r) := by
  rw [State.sideRecord, (holder_eq_some ..).mpr ⟨⟨r, hr, hseat, hside⟩, hlow⟩, Option.bind_some, hr, Option.map_some]

/-- The three fields of one side: index, state and activity of its record, or 0xFF, 0 and 0. -/
def sideFields (h : Option (Fin 8 × LinkRecord)) : List (Nat × Nat) :=
  [(1, h.elim 0xFF fun p => p.1.val), (1, h.elim 0 fun p => p.2.state.code), (1, h.elim 0 fun p => p.2.activity.code)]

/-- The five fields of a crossfade: present mark, sides, position and length. -/
def crossfadeFields (c : Option Crossfade) : List (Nat × Nat) :=
  [(1, c.elim 0 fun _ => 1), (1, c.elim 0 fun x => x.old.code), (1, c.elim 0 fun x => x.new.code), (1, c.elim 0 (·.k)),
    (1, c.elim 0 (·.n))]

/-- The table of the READ SEAT body. -/
def State.seatFields (s : State) (i : Fin 4) : List (Nat × Nat) :=
  let r := s.seats.get i
  [(1, i.val), (1, r.mode.code), (1, r.fadeLength), (1, r.returnHold), (2, r.stepSize), (1, voiceCode r.voice)] ++
  crossfadeFields r.crossfade ++ [(2, r.stable)] ++ sideFields (s.sideRecord i .left) ++ sideFields (s.sideRecord i .right)

theorem crossfadeBytes_eq_layOut (c : Option Crossfade) : crossfadeBytes c = layOut (crossfadeFields c) := by
  cases c <;> simp [crossfadeBytes, crossfadeFields, layOut, byte1]

theorem sideEntry_eq_layOut (s : State) (seat : Fin 4) (side : Side) :
    s.sideEntry seat side = layOut (sideFields (s.sideRecord seat side)) := by
  have hdef : s.sideEntry seat side =
      match s.sideRecord seat side with
      | some (i, r) => byte1 i.val ++ byte1 r.state.code ++ byte1 r.activity.code
      | none => byte1 0xFF ++ byte1 0 ++ byte1 0 := rfl
  rw [hdef]
  cases s.sideRecord seat side <;> simp [sideFields, layOut, byte1]

theorem seatBody_eq_layOut (s : State) (i : Fin 4) : s.seatBody i = layOut (s.seatFields i) := by
  simp [State.seatBody, State.seatFields, crossfadeBytes_eq_layOut, sideEntry_eq_layOut, layOut, byte1, byte2]

theorem fadeLength_le {n : Nat} (h : n ∈ [1, 2, 4, 8, 16, 32]) : n ≤ 32 := by
  simp only [List.mem_cons, List.not_mem_nil, or_false] at h
  omega

theorem sideFields_fit (h : Option (Fin 8 × LinkRecord)) : FieldsFit (sideFields h) := by
  cases h with
  | none => simp [FieldsFit, sideFields]
  | some p =>
    have hstate := linkState_code_lt p.2.state
    have hactivity := activity_code_lt p.2.activity
    simp only [FieldsFit, sideFields, Option.elim_some, List.forall_mem_cons, List.not_mem_nil, false_implies, implies_true,
      and_true]
    and_intros <;> omega

theorem crossfadeFields_fit {r : SeatRecord} (h : r.InOrder) : FieldsFit (crossfadeFields r.crossfade) := by
  cases hx : r.crossfade with
  | none => simp [FieldsFit, crossfadeFields]
  | some x =>
    obtain ⟨-, -, -, hk, hn⟩ := h.crossfade x hx
    have hold := side_code_lt x.old
    have hnew := side_code_lt x.new
    have hn := fadeLength_le hn
    simp only [FieldsFit, crossfadeFields, Option.elim_some, List.forall_mem_cons, List.not_mem_nil, false_implies,
      implies_true, and_true]
    and_intros <;> omega

theorem fieldsFit_append {fs gs : List (Nat × Nat)} (hf : FieldsFit fs) (hg : FieldsFit gs) : FieldsFit (fs ++ gs) :=
  List.forall_mem_append.mpr ⟨hf, hg⟩

theorem seatFields_fit {s : State} {i : Fin 4} (h : (s.seats.get i).InOrder) : FieldsFit (s.seatFields i) := by
  have hmode := seatMode_code_lt (s.seats.get i).mode
  have hfade := fadeLength_le h.fadeLength
  have hvoice := voiceCode_lt (s.seats.get i).voice
  have hcrossfade := crossfadeFields_fit h
  obtain ⟨-, hhold, ⟨-, hstep⟩, hstable, -, -⟩ := h
  refine fieldsFit_append (fieldsFit_append (fieldsFit_append (fieldsFit_append ?_ hcrossfade) ?_)
    (sideFields_fit _)) (sideFields_fit _)
  all_goals
    simp only [FieldsFit, List.forall_mem_cons, List.not_mem_nil, false_implies, implies_true, and_true]
    and_intros <;> omega

/-! ## The timers -/

theorem timer_body_eq_layOut (t : Timer) :
    t.body = layOut [(2, t.load), (2, t.count), (1, t.mode.code), (1, t.source.code), (1, t.state.code)] := by
  simp [Timer.body, layOut, byte1, byte2]

theorem timerFields_fit {t : Timer} (h : t.InOrder) :
    FieldsFit [(2, t.load), (2, t.count), (1, t.mode.code), (1, t.source.code), (1, t.state.code)] := by
  have hmode : t.mode.code < 2 := by cases t.mode <;> decide
  have hsource : t.source.code < 2 := by cases t.source <;> decide
  have hstate : t.state.code < 2 := by cases t.state <;> decide
  obtain ⟨⟨-, hload⟩, hcount, -⟩ := h
  simp only [FieldsFit, List.forall_mem_cons, List.not_mem_nil, false_implies, implies_true, and_true]
  and_intros <;> omega

theorem cascadeIdle_iff (s : State) (i : Fin 4) : cascadeIdle s.timers i = true ↔ s.CascadeIdle i := by
  fin_cases i <;> simp [cascadeIdle, State.CascadeIdle, Fin.exists_fin_succ]

theorem timerMode_ofCode_of_le {v : Byte} (h : v.toNat ≤ 1) :
    TimerMode.ofCode v.toNat = some (if v = 0 then .oneShot else .periodic) := by
  obtain rfl | rfl : v = 0 ∨ v = 1 := by bv_omega
  all_goals rfl

theorem timerSource_ofCode_of_le {v : Byte} (h : v.toNat ≤ 1) :
    TimerSource.ofCode v.toNat = some (if v = 0 then .tick else .cascade) := by
  obtain rfl | rfl : v = 0 ∨ v = 1 := by bv_omega
  all_goals rfl

theorem timerMode_ofCode_of_above {v : Nat} (h : 1 < v) : TimerMode.ofCode v = none := by
  obtain ⟨k, rfl⟩ : ∃ k, v = k + 2 := ⟨v - 2, by omega⟩
  rfl

theorem timerSource_ofCode_of_above {v : Nat} (h : 1 < v) : TimerSource.ofCode v = none := by
  obtain ⟨k, rfl⟩ : ∃ k, v = k + 2 := ⟨v - 2, by omega⟩
  rfl

end Sys2Proof.Machine
end

section
/-! PROOFS. The seat and timer requests (R85, R86, R92, R157 to R159). -/

namespace Sys2Proof.Machine

open Sys2Proof

/-! ## SET SEAT -/

theorem setSeat_of_refused {s : State} {b : SeatBody} (hseat : b.seat ≤ 3)
    (h : 3 < b.mode ∨ b.fadeLength ∉ [1, 2, 4, 8, 16, 32] ∨ 255 < b.returnHold ∨ b.stepSize = 0 ∨ 4096 < b.stepSize) :
    setSeat s b = refuse s .badValue := by
  obtain ⟨i, hi⟩ : ∃ i : Fin 4, i.val = b.seat := ⟨⟨b.seat, by omega⟩, rfl⟩
  cases hm : SeatMode.ofCode b.mode with
  | none => simp only [setSeat, index?_eq_some.mpr hi, hm]
  | some m =>
    have hmode := seatMode_code_lt m
    rw [(seatMode_ofCode_iff _ _).mp hm] at hmode
    have hnot : ¬(fadeLengths.contains b.fadeLength = true ∧ b.returnHold ≤ 255 ∧ 1 ≤ b.stepSize ∧ b.stepSize ≤ 4096) := by
      rintro ⟨hfade, hhold, hlow, hhigh⟩
      have hfade : b.fadeLength ∈ [1, 2, 4, 8, 16, 32] := List.contains_iff_mem.mp hfade
      rcases h with h | h | h
      · omega
      · exact h hfade
      · omega
    simp only [setSeat, index?_eq_some.mpr hi, hm, hnot, if_false]

theorem setSeat_of_right {s : State} {b : SeatBody} {i : Fin 4} {m : SeatMode} (hi : i.val = b.seat) (hm : m.code = b.mode)
    (h : ¬(3 < b.mode ∨ b.fadeLength ∉ [1, 2, 4, 8, 16, 32] ∨ 255 < b.returnHold ∨ b.stepSize = 0 ∨ 4096 < b.stepSize)) :
    setSeat s b = { st := s.onSeat i fun r => r.configured m b } := by
  simp only [not_or, not_not] at h
  obtain ⟨-, hfade, hhold, hlow, hhigh⟩ := h
  have hin : fadeLengths.contains b.fadeLength = true ∧ b.returnHold ≤ 255 ∧ 1 ≤ b.stepSize ∧ b.stepSize ≤ 4096 :=
    ⟨List.contains_iff_mem.mpr hfade, by omega, by omega, by omega⟩
  simp only [setSeat, index?_eq_some.mpr hi, (seatMode_ofCode_iff _ _).mpr hm, if_pos hin]

/-- Settles O28: the codes first, then the ranges, then the one write. -/
theorem setSeatWritesTheFourFields : Obligations.SetSeatWritesTheFourFields := by
  refine ⟨rfl, fun s tag seat mode fade holdLo holdHi stepLo stepHi h => ?_⟩
  rw [exec_setSeat_of_holds h]
  refine ⟨fun habove => ?_, fun hseat hwrong => ?_, fun i m hi hm hright => ?_⟩
  · have hnone : index? 4 seat.toNat = none := index?_eq_none.mpr habove
    simp only [setSeat, hnone, answer_refuse]
  · rw [setSeat_of_refused hseat hwrong, answer_refuse]
  · rw [setSeat_of_right hi hm hright, answer_of_no_causes _ _ _ rfl]
    rfl

/-! ## READ SEAT -/

/-- The crossfade's bytes in the READ SEAT body: all 0 where it is absent. -/
theorem byteAt_of_no_crossfade {s : State} {i : Fin 4} (h : (s.seats.get i).InOrder)
    (hnone : (s.seats.get i).crossfade = none) (k : Nat) (hlow : 7 ≤ k) (hhigh : k ≤ 11) :
    byteAt (layOut (s.seatFields i)) k = 0 := by
  have hfit := seatFields_fit h
  obtain rfl | rfl | rfl | rfl | rfl : k = 7 ∨ k = 8 ∨ k = 9 ∨ k = 10 ∨ k = 11 := by omega
  all_goals
    refine byteAt_of_fit hfit ?_
    rw [State.seatFields, hnone]
    rfl

/-- The three fields of a side in the READ SEAT table. -/
theorem fieldAt_side {s : State} {i : Fin 4} {side : Side} {offset : Nat}
    (hoffset : side = .left ∧ offset = 14 ∨ side = .right ∧ offset = 17) :
    let record := s.sideRecord i side
    fieldAt (s.seatFields i) offset = some (1, record.elim 0xFF fun p => p.1.val) ∧
      fieldAt (s.seatFields i) (offset + 1) = some (1, record.elim 0 fun p => p.2.state.code) ∧
      fieldAt (s.seatFields i) (offset + 2) = some (1, record.elim 0 fun p => p.2.activity.code) := by
  rcases hoffset with ⟨rfl, rfl⟩ | ⟨rfl, rfl⟩ <;> exact ⟨rfl, rfl, rfl⟩

/-- A byte of a table tells its field where that is a byte, whatever the other fields hold. -/
theorem byteAt_of_small {fields : List (Nat × Nat)} {k v : Nat} (h : fieldAt fields k = some (1, v)) (hv : v < 256) :
    byteAt (layOut fields) k = v := by
  have h0 := byteAt_layOut h 0 Nat.one_pos
  rw [Nat.add_zero] at h0
  omega

/-- The three bytes of a side in the READ SEAT body. -/
theorem byteAt_side {s : State} {i : Fin 4} {side : Side} {offset : Nat}
    (hoffset : side = .left ∧ offset = 14 ∨ side = .right ∧ offset = 17) {record : Option (Fin 8 × LinkRecord)}
    (hrecord : s.sideRecord i side = record) :
    byteAt (s.seatBody i) offset = (record.elim 0xFF fun p => p.1.val) ∧
      byteAt (s.seatBody i) (offset + 1) = (record.elim 0 fun p => p.2.state.code) ∧
      byteAt (s.seatBody i) (offset + 2) = record.elim 0 fun p => p.2.activity.code := by
  obtain ⟨hindex, hstate, hactivity⟩ := fieldAt_side (s := s) (i := i) hoffset
  rw [hrecord] at hindex hstate hactivity
  have hfit := sideFields_fit record
  rw [seatBody_eq_layOut]
  exact ⟨byteAt_of_small hindex (hfit _ (.head _)), byteAt_of_small hstate (hfit _ (.tail _ (.head _))),
    byteAt_of_small hactivity (hfit _ (.tail _ (.tail _ (.head _))))⟩

/-- Settles O29: the body is a table of fields; the two sides are those of the records that hold them. -/
theorem readSeatTellsTheRecordAndItsSides : Obligations.ReadSeatTellsTheRecordAndItsSides := by
  refine ⟨⟨rfl, rfl, rfl, rfl⟩, ⟨rfl, rfl⟩, ⟨rfl, rfl, rfl, rfl⟩, ⟨rfl, rfl⟩, fun s tag seat h => ?_⟩
  rw [exec_readSeat_of_holds h]
  refine ⟨fun habove => ?_, fun i hi => ⟨s.seatBody i, ?_, length_seatBody i, fun hr => ?_, fun side offset hoffset => ?_⟩⟩
  · have hnone : index? 4 seat.toNat = none := index?_eq_none.mpr habove
    simp only [readSeat, hnone, answer_refuse]
  · simp only [readSeat, index?_eq_some.mpr hi]
    exact congrArg _ (answer_of_no_causes _ _ _ rfl)
  · rw [seatBody_eq_layOut]
    have hfit := seatFields_fit hr
    have byte {k v : Nat} (h : fieldAt (s.seatFields i) k = some (1, v)) : byteAt (layOut (s.seatFields i)) k = v :=
      byteAt_of_fit hfit h
    have word {k v : Nat} (h : fieldAt (s.seatFields i) k = some (2, v)) : wordAt (layOut (s.seatFields i)) k = v :=
      wordAt_of_fit hfit h
    refine ⟨byte rfl, byte rfl, byte rfl, byte rfl, word rfl, word rfl, fun hnone => ?_, fun side hvoice => ?_,
      fun hnone k hlow hhigh => byteAt_of_no_crossfade hr hnone k hlow hhigh, fun x hx => ?_⟩
    · exact (byte rfl).trans (by rw [hnone]; rfl)
    · exact (byte rfl).trans (by rw [hvoice]; rfl)
    · have present {v : Crossfade → Nat} : ((s.seats.get i).crossfade.elim 0 v) = v x := by rw [hx]; rfl
      exact ⟨(byte rfl).trans present, (byte rfl).trans present, (byte rfl).trans present, (byte rfl).trans present,
        (byte rfl).trans present⟩
  · exact ⟨fun hfree => byteAt_side hoffset (sideRecord_of_none hfree), fun j r hr hseat hside hlow =>
      byteAt_side hoffset (sideRecord_of_lowest hr hseat hside hlow)⟩

/-! ## The timer requests -/

theorem loadTimer_of_refused {s : State} {i : Fin 4} {load : Nat} {index mode source : Byte} (hi : i.val = index.toNat)
    (h : load = 0 ∨ 1 < mode.toNat ∨ 1 < source.toNat ∨ (source = 1 ∧ index = 0)) :
    loadTimer s ⟨index.toNat, load, mode.toNat, source.toNat⟩ = refuse s .badValue := by
  by_cases hm : mode.toNat ≤ 1
  case neg => simp only [loadTimer, index?_eq_some.mpr hi, timerMode_ofCode_of_above (not_le.mp hm)]
  by_cases hs : source.toNat ≤ 1
  case neg =>
    simp only [loadTimer, index?_eq_some.mpr hi, timerMode_ofCode_of_le hm, timerSource_ofCode_of_above (not_le.mp hs)]
  have hwrong : load = 0 ∨ ((if source = 0 then TimerSource.tick else .cascade) = .cascade ∧ i = 0) := by
    rcases h with h | h | h | ⟨rfl, rfl⟩
    · exact .inl h
    · omega
    · omega
    · exact .inr ⟨rfl, Fin.ext hi⟩
  simp only [loadTimer, index?_eq_some.mpr hi, timerMode_ofCode_of_le hm, timerSource_ofCode_of_le hs, if_pos hwrong]

theorem loadTimer_of_right {s : State} {i : Fin 4} {load : Nat} {index mode source : Byte} (hi : i.val = index.toNat)
    (h : ¬(load = 0 ∨ 1 < mode.toNat ∨ 1 < source.toNat ∨ (source = 1 ∧ index = 0))) :
    loadTimer s ⟨index.toNat, load, mode.toNat, source.toNat⟩ =
      { st := { s with
          timers := s.timers.set i
            { s.timers.get i with
              load := load
              mode := if mode = 0 then .oneShot else .periodic
              source := if source = 0 then .tick else .cascade } } } := by
  simp only [not_or, not_and, not_lt] at h
  obtain ⟨hload, hm, hs, hfirst⟩ := h
  have hright : ¬(load = 0 ∨ ((if source = 0 then TimerSource.tick else .cascade) = .cascade ∧ i = 0)) := by
    rintro (h | ⟨hcascade, rfl⟩)
    · exact hload h
    · obtain rfl | rfl : source = 0 ∨ source = 1 := by bv_omega
      · simp at hcascade
      · exact hfirst rfl (by bv_omega)
  simp only [loadTimer, index?_eq_some.mpr hi, timerMode_ofCode_of_le hm, timerSource_ofCode_of_le hs, if_neg hright]

/-- Settles O34: each request by its index and its tests. -/
theorem timerRequestsLoadStartStopAndRead : Obligations.TimerRequestsLoadStartStopAndRead := by
  refine ⟨⟨rfl, rfl, rfl, rfl, rfl, rfl⟩, fun s tag index low high mode source h => ?_, fun s tag index =>
    ⟨fun h habove => ?_, fun h habove => ?_, fun h habove => ?_, fun i hi => ⟨fun h => ⟨fun hidle => ?_, fun hnot => ?_⟩,
      fun h => ?_, fun h => ⟨(s.timers.get i).body, ?_, rfl, fun hin => ?_⟩⟩⟩⟩
  · rw [exec_loadTimer_of_holds h]
    refine ⟨fun habove => ?_, fun i hi => ⟨fun hwrong => ?_, fun hright => ?_⟩⟩
    · have hnone : index? 4 index.toNat = none := index?_eq_none.mpr habove
      simp only [loadTimer, hnone, answer_refuse]
    · rw [loadTimer_of_refused hi hwrong, answer_refuse]
    · rw [loadTimer_of_right hi hright, answer_of_no_causes _ _ _ rfl]
  · have hnone : index? 4 index.toNat = none := index?_eq_none.mpr habove
    simp only [exec_startTimer_of_holds h, startTimer, hnone, answer_refuse]
  · have hnone : index? 4 index.toNat = none := index?_eq_none.mpr habove
    simp only [exec_stopTimer_of_holds h, stopTimer, hnone, answer_refuse]
  · have hnone : index? 4 index.toNat = none := index?_eq_none.mpr habove
    simp only [exec_readTimer_of_holds h, readTimer, hnone, answer_refuse]
  · simp only [exec_startTimer_of_holds h, startTimer, index?_eq_some.mpr hi, if_pos ((cascadeIdle_iff s i).mpr hidle),
      answer_refuse]
  · have hnot : ¬cascadeIdle s.timers i = true := mt (cascadeIdle_iff s i).mp hnot
    simp only [exec_startTimer_of_holds h, startTimer, index?_eq_some.mpr hi, if_neg hnot]
    exact congrArg _ (answer_of_no_causes _ _ _ rfl)
  · simp only [exec_stopTimer_of_holds h, stopTimer, index?_eq_some.mpr hi]
    exact congrArg _ (answer_of_no_causes _ _ _ rfl)
  · simp only [exec_readTimer_of_holds h, readTimer, index?_eq_some.mpr hi]
    exact congrArg _ (answer_of_no_causes _ _ _ rfl)
  · rw [timer_body_eq_layOut]
    have hfit := timerFields_fit hin
    exact ⟨wordAt_of_fit hfit rfl, wordAt_of_fit hfit rfl, byteAt_of_fit hfit rfl, byteAt_of_fit hfit rfl,
      byteAt_of_fit hfit rfl⟩

end Sys2Proof.Machine
end

section
/-! SUPPORT. A firing by the conditions and the writes of the statements, a fold over the four sets as its four stages, and
what a cause group may write (R163 to R166). -/

namespace Sys2Proof.Machine

open Sys2Proof

/-! ## Firings -/

section
variable {s : State}

theorem actionFault_eq_some {a : Action} {reason : FaultReason} : s.actionFault a = some reason ↔ s.Faults a reason := by
  constructor
  · intro h
    cases a with
    | startTimer i =>
      by_cases hidle : cascadeIdle s.timers i = true
      · simp only [State.actionFault, if_pos hidle, Option.some.injEq] at h
        exact h ▸ .cascadeIdle i rfl ((cascadeIdle_iff s i).mp hidle)
      · simp only [State.actionFault, if_neg hidle, reduceCtorEq] at h
    | prefer seat side =>
      cases hholder : holder s.slots seat side with
      | none =>
        simp only [State.actionFault, hholder, Option.isNone_none, if_true, Option.some.injEq] at h
        exact h ▸ .sideEmpty ⟨seat, side, rfl, (holder_eq_none ..).mp hholder⟩
      | some i => simp [State.actionFault, hholder] at h
    | _ => cases h
  · rintro (⟨seat, side, rfl, hempty⟩ | ⟨i, rfl, hidle⟩)
    · simp only [State.actionFault, (holder_eq_none ..).mpr hempty, Option.isNone_none, if_true]
    · simp only [State.actionFault, if_pos ((cascadeIdle_iff s i).mpr hidle)]

theorem actionFault_eq_none {a : Action} : s.actionFault a = none ↔ ∀ reason, ¬s.Faults a reason := by
  rw [Option.eq_none_iff_forall_ne_some]
  exact forall_congr' fun reason => not_congr actionFault_eq_some

theorem cueFaults_eq (j : Fin 4) (reason : FaultReason) : s.cueFaults j reason = s.faulted j (s.cues.get j) reason := rfl

theorem cueFired_eq (j : Fin 4) : s.cueFired j = s.firedCounted j (s.cues.get j) := by
  have hnotices : (if (s.cues.get j).notify then s.notices.raise .cue else s.notices) =
      { s.notices with cue := (s.cues.get j).notify || s.notices.cue } := by
    cases (s.cues.get j).notify <;> rfl
  rw [State.cueFired, hnotices]
  rfl

variable {j : Fin 4}

theorem fireSet_of_fault {reason : FaultReason} (h : s.Faults (s.cues.get j).action reason) :
    s.fireSet j = s.faulted j (s.cues.get j) reason := by
  simp only [State.fireSet, actionFault_eq_some.mpr h, cueFaults_eq]

theorem fireWhole_of_fault {reason : FaultReason} (h : s.Faults (s.cues.get j).action reason) :
    s.fireWhole j = s.faulted j (s.cues.get j) reason := by
  simp only [State.fireWhole, State.fireFaults, actionFault_eq_some.mpr h, fireSet_of_fault h]

theorem fireSet_of_performed (h : ∀ reason, ¬s.Faults (s.cues.get j).action reason) :
    s.fireSet j = (s.act (s.cues.get j).action).firedCounted j (s.cues.get j) := by
  simp only [State.fireSet, actionFault_eq_none.mpr h, cueFired_eq, act_cues]

theorem fireWhole_of_performed (h : ∀ reason, ¬s.Faults (s.cues.get j).action reason) :
    s.fireWhole j =
      ((s.act (s.cues.get j).action).firedCounted j (s.cues.get j)).fireChain (s.cues.get j).chain := by
  simp only [State.fireWhole, State.fireFaults, actionFault_eq_none.mpr h, fireSet_of_performed h]

end

/-! ## The four steps of a group and of a chain -/

/-- A fold over the four sets after its first `k` steps. -/
def foldStage (f : State → Fin 4 → State) (s : State) (k : Fin 5) : State := ((List.finRange 4).take k.val).foldl f s

theorem foldStage_zero (f : State → Fin 4 → State) (s : State) : foldStage f s 0 = s := rfl

theorem foldStage_succ (f : State → Fin 4 → State) (s : State) (j : Fin 4) :
    foldStage f s j.succ = f (foldStage f s j.castSucc) j := by
  simp [foldStage, List.take_add_one, List.foldl_append]

/-- One step of a cause group. -/
def groupStep (group : List Cause) (s : State) (j : Fin 4) : State :=
  if (s.cues.get j).enabled && (s.cues.get j).isMatch group then s.fireWhole j else s

/-- One step of a chain. -/
def chainStep (chain : Bank 4 Bool) (s : State) (j : Fin 4) : State :=
  if chain.get j && (s.cues.get j).enabled then s.fireSet j else s

theorem handleGroup_eq_stage (s : State) (group : List Cause) :
    s.handleGroup group = foldStage (groupStep group) s 4 := rfl

theorem fireChain_eq_stage (s : State) (chain : Bank 4 Bool) :
    s.fireChain chain = foldStage (chainStep chain) s 4 := rfl

theorem isMatch_iff {c : CueSet} {group : List Cause} :
    c.isMatch group = true ↔ ∃ cause ∈ group, c.cause = some cause := by
  cases hc : c.cause with
  | none => simp [CueSet.isMatch, hc]
  | some cause => simp [CueSet.isMatch, hc]

section
variable {group : List Cause} {s : State} {j : Fin 4}

theorem groupStep_of_fires
    (h : (s.cues.get j).enabled = true ∧ ∃ cause ∈ group, (s.cues.get j).cause = some cause) :
    groupStep group s j = s.fireWhole j := by
  rw [groupStep, h.1, isMatch_iff.mpr h.2]
  rfl

theorem groupStep_of_passed
    (h : ¬((s.cues.get j).enabled = true ∧ ∃ cause ∈ group, (s.cues.get j).cause = some cause)) :
    groupStep group s j = s := by
  rw [← isMatch_iff, ← Bool.and_eq_true] at h
  exact if_neg h

/-- With no enabled set whose cause is in the group, the group does nothing. -/
theorem handleGroup_of_none_fires
    (h : ∀ j, ¬((s.cues.get j).enabled = true ∧ ∃ cause ∈ group, (s.cues.get j).cause = some cause)) :
    s.handleGroup group = s :=
  fold_fireSet_keeps (P := fun t => t = s) (groupStep group)
    (fun t j ht => by rw [ht]; exact groupStep_of_passed (h j)) _ s rfl

end

/-! ## What a group may write -/

/-- Nothing but what R163 to R166 name differs from `s` in `t`. -/
structure State.CueWrites (s t : State) : Prop where
  gains : ∀ g x, s.gains.get? g = some x → ∃ y, t.gains.get? g = some y ∧ y.step = x.step ∧
    (y.current = x.current ∨ y.current = 0)
  ceiling : t.gains.ceiling = s.gains.ceiling
  timers : ∀ i, t.timers.get i =
    { s.timers.get i with state := (t.timers.get i).state, count := (t.timers.get i).count }
  seats : ∀ i, t.seats.get i = { s.seats.get i with mode := (t.seats.get i).mode, stable := (t.seats.get i).stable }
  definitions : ∀ j, t.cues.get j =
    { s.cues.get j with enabled := (t.cues.get j).enabled, fireCount := (t.cues.get j).fireCount }
  enabled : ∀ j, (t.cues.get j).enabled = true → (s.cues.get j).enabled = true
  fireCount : ∀ j, (s.cues.get j).fireCount ≤ 65535 →
    (s.cues.get j).fireCount ≤ (t.cues.get j).fireCount ∧ (t.cues.get j).fireCount ≤ 65535
  notice : s.notices.cue = true → t.notices.cue = true
  fault : ∀ f, s.cueFault = some f → t.cueFault = some f
  rest : t = { s with
    gains := t.gains, timers := t.timers, seats := t.seats, cues := t.cues, cueFault := t.cueFault
    notices := { s.notices with cue := t.notices.cue } }

theorem cueWrites_refl (s : State) : s.CueWrites s where
  gains _ x h := ⟨x, h, rfl, .inl rfl⟩
  ceiling := rfl
  timers _ := rfl
  seats _ := rfl
  definitions _ := rfl
  enabled _ h := h
  fireCount _ h := ⟨le_rfl, h⟩
  notice h := h
  fault _ h := h
  rest := rfl

theorem cueWrites_trans {s t u : State} (h : s.CueWrites t) (h' : t.CueWrites u) : s.CueWrites u where
  gains g x hx := by
    obtain ⟨y, hy, hstep, hcurrent⟩ := h.gains g x hx
    obtain ⟨z, hz, hstep', hcurrent'⟩ := h'.gains g y hy
    refine ⟨z, hz, hstep'.trans hstep, ?_⟩
    rcases hcurrent' with hkept | hzero
    · rwa [hkept]
    · exact .inr hzero
  ceiling := h'.ceiling.trans h.ceiling
  timers i := (h'.timers i).trans (congrArg
    (fun x : Timer => { x with state := (u.timers.get i).state, count := (u.timers.get i).count }) (h.timers i))
  seats i := (h'.seats i).trans (congrArg
    (fun x : SeatRecord => { x with mode := (u.seats.get i).mode, stable := (u.seats.get i).stable }) (h.seats i))
  definitions j := (h'.definitions j).trans (congrArg
    (fun x : CueSet => { x with enabled := (u.cues.get j).enabled, fireCount := (u.cues.get j).fireCount })
    (h.definitions j))
  enabled j hu := h.enabled j (h'.enabled j hu)
  fireCount j hs := by
    obtain ⟨hle, ht⟩ := h.fireCount j hs
    obtain ⟨hle', hu⟩ := h'.fireCount j ht
    exact ⟨hle.trans hle', hu⟩
  notice hs := h'.notice (h.notice hs)
  fault f hf := h'.fault f (h.fault f hf)
  rest := h'.rest.trans (congrArg
    (fun x : State => { x with
      gains := u.gains, timers := u.timers, seats := u.seats, cues := u.cues, cueFault := u.cueFault
      notices := { x.notices with cue := u.notices.cue } }) h.rest)

/-- A write of the gains alone that keeps each ramp step, and each current or sets it to 0. -/
theorem cueWrites_of_gains {s : State} {name : GainName} {f : Gain → Gain}
    (h : ∀ x, (f x).step = x.step ∧ ((f x).current = x.current ∨ (f x).current = 0)) :
    s.CueWrites { s with gains := s.gains.modify name f } :=
  { cueWrites_refl s with
    gains := fun g x hx => by
      by_cases hg : g = name
      · subst hg
        exact ⟨f x, by rw [get?_modify_self, hx, Option.map_some], h x⟩
      · exact ⟨x, by rw [get?_modify_ne _ _ hg, hx], rfl, .inl rfl⟩
    ceiling := modify_ceiling _ _ _
    rest := rfl }

theorem cueWrites_of_timers {s : State} {i : Fin 4} {state : TimerState} {count : Nat} :
    s.CueWrites { s with timers := s.timers.set i { s.timers.get i with state, count } } :=
  { cueWrites_refl s with
    timers := fun k => by
      simp only [Bank.get_set]
      split
      next hk => rw [hk]
      · rfl
    rest := rfl }

theorem cueWrites_of_seats {s : State} {i : Fin 4} {mode : SeatMode} {stable : Nat} :
    s.CueWrites { s with seats := s.seats.set i { s.seats.get i with mode, stable } } :=
  { cueWrites_refl s with
    seats := fun k => by
      simp only [Bank.get_set]
      split
      next hk => rw [hk]
      · rfl
    rest := rfl }

theorem cueWrites_act (s : State) (a : Action) : s.CueWrites (s.act a) := by
  cases a with
  | none => exact cueWrites_refl s
  | setTarget g v => exact cueWrites_of_gains fun _ => ⟨rfl, .inl rfl⟩
  | fade g => exact cueWrites_of_gains fun _ => ⟨rfl, .inl rfl⟩
  | cut g => exact cueWrites_of_gains fun _ => ⟨rfl, .inr rfl⟩
  | step o d => exact cueWrites_of_gains fun _ => ⟨rfl, .inl rfl⟩
  | startTimer i => exact cueWrites_of_timers
  | stopTimer i => exact cueWrites_of_timers
  | prefer seat side => exact cueWrites_of_seats

/-- A write of one set's enabled state, not to enabled, and of its count, not down; of the CUE notice, not to clear; and of
the fault record, where it was absent. -/
theorem cueWrites_of_cues {s : State} {j : Fin 4} {enabled cue : Bool} {fireCount : Nat} {fault : Option CueFault}
    (henabled : enabled = true → (s.cues.get j).enabled = true)
    (hcount : (s.cues.get j).fireCount ≤ 65535 → (s.cues.get j).fireCount ≤ fireCount ∧ fireCount ≤ 65535)
    (hcue : s.notices.cue = true → cue = true) (hfault : ∀ f, s.cueFault = some f → fault = some f) :
    s.CueWrites { s with
      cues := s.cues.set j { s.cues.get j with enabled, fireCount }
      notices := { s.notices with cue }
      cueFault := fault } :=
  { cueWrites_refl s with
    definitions := fun k => by
      simp only [Bank.get_set]
      split
      next hk => rw [hk]
      · rfl
    enabled := fun k hk => by
      simp only [Bank.get_set] at hk
      split at hk
      next hkj => exact hkj ▸ henabled hk
      · exact hk
    fireCount := fun k hk => by
      simp only [Bank.get_set]
      split
      next hkj =>
        subst hkj
        exact hcount hk
      · exact ⟨le_rfl, hk⟩
    notice := hcue
    fault := hfault
    rest := rfl }

theorem cueWrites_fireSet (s : State) (j : Fin 4) : s.CueWrites (s.fireSet j) := by
  rcases fireSet_cases s j with ⟨reason, -, h⟩ | ⟨-, h⟩
  · rw [h, cueFaults_eq]
    refine cueWrites_of_cues (fun hfalse => ?_) (fun hle => ⟨le_rfl, hle⟩) (fun _ => rfl) fun f hf => ?_
    · cases hfalse
    · rw [hf, Option.getD_some]
  · rw [h, cueFired_eq]
    refine cueWrites_trans (cueWrites_act s _) (cueWrites_of_cues (fun hen => ?_) (fun hle => ?_) (fun hcue => ?_)
      fun f hf => hf)
    · exact (Bool.and_eq_true_iff.mp hen).1
    · unfold counted
      omega
    · rw [hcue, Bool.or_true]

theorem cueWrites_handleGroup (s : State) (group : List Cause) : s.CueWrites (s.handleGroup group) :=
  handleGroup_keeps (fun t j h => cueWrites_trans h (cueWrites_fireSet t j)) s group (cueWrites_refl s)

end Sys2Proof.Machine
end

section
/-! PROOFS. FIRE CUE, the order of a cause group, and the frame of a cause group (R163 to R166, R169). -/

namespace Sys2Proof.Machine

open Sys2Proof

theorem exec_fireCue_of_holds {s : State} {tag set : Byte} (h : s.Holds 0x15 tag [set]) :
    exec .fireCue s = .next ((fireCue s set.toNat).answer 0x15 tag) :=
  congrArg Host.Outcome.next (takeRequest_of_holds bodyByte fireCue h (by simp) rfl)

theorem fireCue_of_enabled {s : State} {j : Fin 4} {v : Nat} (hj : j.val = v) (h : (s.cues.get j).enabled = true) :
    fireCue s v = { st := s.fireWhole j, body := fireBody (s.fireFaults j) } := by
  simp only [fireCue, index?_eq_some.mpr hj, if_pos h]

/-- Settles O37: the named set fired whole, the answer by its fault. -/
theorem fireCueFiresTheNamedSet : Obligations.FireCueFiresTheNamedSet := by
  refine ⟨⟨rfl, rfl⟩, fun s tag set h => ?_⟩
  rw [exec_fireCue_of_holds h]
  refine ⟨fun habove => ?_, fun j hj => ⟨fun hdisabled => ?_, fun henabled => ⟨fun reason hfault => ?_, fun hnone => ?_⟩⟩⟩
  · have hnone : index? 4 set.toNat = none := index?_eq_none.mpr habove
    simp only [fireCue, hnone, answer_refuse]
  · have hnot : ¬(s.cues.get j).enabled = true := by simp [hdisabled]
    simp only [fireCue, index?_eq_some.mpr hj, if_neg hnot, answer_refuse]
  · rw [fireCue_of_enabled hj henabled, answer_of_no_causes _ _ _ rfl, fireWhole_of_fault hfault, State.fireFaults,
      actionFault_eq_some.mpr hfault]
    rfl
  · rw [fireCue_of_enabled hj henabled, answer_of_no_causes _ _ _ rfl, fireWhole_of_performed hnone, State.fireFaults,
      actionFault_eq_none.mpr hnone]
    rfl

/-- Settles O39: group and chain are folds over the four sets, whose stages are their first steps. -/
theorem cueGroupsAreHandledInAscendingOrder : Obligations.CueGroupsAreHandledInAscendingOrder := by
  refine ⟨fun s group => ⟨foldStage (groupStep group) s, foldStage_zero _ _,
      handleGroup_eq_stage s group, fun j => ⟨fun hfires => ?_, fun hpassed => ?_⟩⟩,
    fun s j => ⟨fun reason hfault => ⟨fireSet_of_fault hfault, fireWhole_of_fault hfault⟩,
      fun hnone => ⟨fireSet_of_performed hnone, fireWhole_of_performed hnone⟩⟩,
    fun s chain => ⟨foldStage (chainStep chain) s, foldStage_zero _ _, fireChain_eq_stage s chain,
      fun j => ⟨fun hfires => ?_, fun hpassed => ?_⟩⟩⟩
  · rw [foldStage_succ, groupStep_of_fires hfires]
  · rw [foldStage_succ, groupStep_of_passed hpassed]
  · rw [foldStage_succ]
    exact if_pos (Bool.and_eq_true_iff.mpr hfires)
  · rw [foldStage_succ]
    exact if_neg (mt Bool.and_eq_true_iff.mp hpassed)

/-- Settles O40: every firing keeps the frame, so a group does; and a group in which no set fires does nothing. -/
theorem cueGroupsWriteNoMoreThanTheirActions : Obligations.CueGroupsWriteNoMoreThanTheirActions := by
  intro s group
  have h := cueWrites_handleGroup s group
  refine ⟨h.gains, h.ceiling, h.timers, h.seats, h.definitions, fun j => ⟨h.enabled j, fun hle => (h.fireCount j hle).1⟩,
    h.notice, h.fault, fun hchanged => ?_, h.rest⟩
  by_contra hnone
  exact hchanged (handleGroup_of_none_fires (not_exists.mp hnone))

end Sys2Proof.Machine
end

section
/-! SUPPORT. A SET CUE body as the definition it says, and the READ CUE body as a table of fields (R167, R170, section
11.2). -/

namespace Sys2Proof.Machine

open Sys2Proof

/-! ## Causes and actions by their codes -/

theorem cause?_iff {code operand : Nat} {c : Option Cause} :
    cause? code operand = some c ↔ causeCode c = code ∧ causeOperand c = operand := by
  constructor
  · intro h
    unfold cause? at h
    split at h
    case h_1 | h_9 | h_10 =>
      split at h
      next hzero =>
        cases h
        exact ⟨rfl, hzero.symm⟩
      · cases h
    case h_2 | h_3 | h_4 | h_5 | h_6 | h_7 =>
      obtain ⟨i, hi, rfl⟩ := Option.map_eq_some_iff.mp h
      exact ⟨rfl, index?_eq_some.mp hi⟩
    case h_8 =>
      obtain ⟨o, ho, rfl⟩ := Option.map_eq_some_iff.mp h
      exact ⟨rfl, (output_ofCode_iff _ _).mp ho⟩
    case h_11 => cases h
  · rintro ⟨rfl, rfl⟩
    cases c with
    | none => rfl
    | some c =>
      cases c with
      | linkLive i | linkLeftLive i | talkStart i | talkEnd i | lowFill i | timer i =>
        simp only [cause?, causeCode, causeOperand, index?_eq_some.mpr rfl, Option.map_some]
      | clip o => simp only [cause?, causeCode, causeOperand, (output_ofCode_iff _ _).mpr rfl, Option.map_some]
      | clockLost | clockBack => rfl

/-- Two codes as two bytes. -/
theorem pair_eq_iff {u v : Nat} (hu : u < 256) (hv : v < 256) (first second : Byte) :
    byte1 u ++ byte1 v = [first, second] ↔ first.toNat = u ∧ second.toNat = v := by
  change [BitVec.ofNat 8 u, BitVec.ofNat 8 v] = [first, second] ↔ _
  rw [List.cons.injEq, List.cons.injEq, ofNat_eq_iff hu, ofNat_eq_iff hv]
  simp

theorem direction_ofCode_iff (v : Nat) (d : Direction) : Direction.ofCode v = some d ↔ d.code = v := by
  rcases v with _ | _ | v <;> cases d <;> simp [Direction.ofCode, Direction.code]

theorem repeat_ofCode_iff (v : Nat) (r : Repeat) : Repeat.ofCode v = some r ↔ r.code = v := by
  rcases v with _ | _ | v <;> cases r <;> simp [Repeat.ofCode, Repeat.code]

section
variable {first second : Byte} {code value : Nat}

/-- What an action is written as determines what is read. -/
theorem action?_of_codes {a : Action} (hoperand : a.operandBytes = [first, second])
    (htarget : ∀ g v, a = .setTarget g v → v ≤ 32767) :
    action? a.code first.toNat second.toNat a.valueNat = some a := by
  cases a with
  | none =>
    obtain ⟨hfirst, hsecond⟩ := (pair_eq_iff (u := 0) (v := 0) (by decide) (by decide) first second).mp hoperand
    simp only [action?, Action.code, Action.valueNat, hfirst, hsecond, and_self, if_true]
  | setTarget g v =>
    have hle : v ≤ Config.gainMax := htarget g v rfl
    simp only [action?, Action.code, Action.valueNat, if_pos hle, (ofCodes_iff first second g).mpr hoperand, Option.map_some]
  | fade g | cut g =>
    simp only [action?, Action.code, Action.valueNat, if_true, (ofCodes_iff first second g).mpr hoperand, Option.map_some]
  | step o d =>
    have ho := output_code_le o
    obtain ⟨hfirst, hsecond⟩ := (pair_eq_iff (u := o.code) (v := 0xFF) (by omega) (by decide) first second).mp hoperand
    simp only [action?, Action.code, Action.valueNat, hfirst, hsecond, if_true, (output_ofCode_iff _ _).mpr rfl,
      (direction_ofCode_iff _ _).mpr rfl, Option.bind_some, Option.map_some]
  | startTimer i | stopTimer i =>
    have hi := i.isLt
    obtain ⟨hfirst, hsecond⟩ := (pair_eq_iff (u := i.val) (v := 0) (by omega) (by decide) first second).mp hoperand
    simp only [action?, Action.code, Action.valueNat, hfirst, hsecond, and_self, if_true, index?_eq_some.mpr rfl,
      Option.map_some]
  | prefer i side =>
    have hi := i.isLt
    have hside := side_code_lt side
    obtain ⟨hfirst, hsecond⟩ := (pair_eq_iff (u := i.val) (v := side.code) (by omega) (by omega) first second).mp hoperand
    simp only [action?, Action.code, Action.valueNat, hfirst, hsecond, if_true, index?_eq_some.mpr rfl,
      (side_ofCode_iff _ _).mpr rfl, Option.bind_some, Option.map_some]

theorem codes_of_action? {a : Action} (h : action? code first.toNat second.toNat value = some a) :
    a.code = code ∧ a.operandBytes = [first, second] ∧ a.valueNat = value := by
  unfold action? at h
  split at h
  case h_1 =>
    split at h
    next hzero =>
      obtain ⟨hfirst, hsecond, hvalue⟩ := hzero
      cases h
      exact ⟨rfl, (pair_eq_iff (by decide) (by decide) first second).mpr ⟨hfirst, hsecond⟩, hvalue.symm⟩
    · cases h
  case h_2 =>
    split at h
    · obtain ⟨g, hg, rfl⟩ := Option.map_eq_some_iff.mp h
      exact ⟨rfl, (ofCodes_iff first second g).mp hg, rfl⟩
    · cases h
  case h_3 | h_4 =>
    split at h
    next hvalue =>
      obtain ⟨g, hg, rfl⟩ := Option.map_eq_some_iff.mp h
      exact ⟨rfl, (ofCodes_iff first second g).mp hg, hvalue.symm⟩
    · cases h
  case h_5 =>
    split at h
    next hsecond =>
      obtain ⟨o, ho, h⟩ := Option.bind_eq_some_iff.mp h
      obtain ⟨d, hd, rfl⟩ := Option.map_eq_some_iff.mp h
      have ho' := output_code_le o
      exact ⟨rfl, (pair_eq_iff (by omega) (by decide) first second).mpr ⟨((output_ofCode_iff _ _).mp ho).symm, hsecond⟩,
        (direction_ofCode_iff _ _).mp hd⟩
    · cases h
  case h_6 | h_7 =>
    split at h
    next hzero =>
      obtain ⟨hsecond, hvalue⟩ := hzero
      obtain ⟨i, hi, rfl⟩ := Option.map_eq_some_iff.mp h
      have hlt := i.isLt
      exact ⟨rfl, (pair_eq_iff (by omega) (by decide) first second).mpr ⟨(index?_eq_some.mp hi).symm, hsecond⟩,
        hvalue.symm⟩
    · cases h
  case h_8 =>
    split at h
    next hvalue =>
      obtain ⟨i, hi, h⟩ := Option.bind_eq_some_iff.mp h
      obtain ⟨side, hside, rfl⟩ := Option.map_eq_some_iff.mp h
      have hlt := i.isLt
      have hcode := side_code_lt side
      exact ⟨rfl, (pair_eq_iff (by omega) (by omega) first second).mpr
        ⟨(index?_eq_some.mp hi).symm, ((side_ofCode_iff _ _).mp hside).symm⟩, hvalue.symm⟩
    · cases h
  case h_9 => cases h

theorem action?_iff {a : Action} : action? code first.toNat second.toNat value = some a ↔
    (a.code = code ∧ a.operandBytes = [first, second] ∧ a.valueNat = value) ∧
      ∀ g v, a = .setTarget g v → v ≤ 32767 := by
  constructor
  · exact fun h => ⟨codes_of_action? h, fun g v ha => target_le_of_action? (ha ▸ h)⟩
  · rintro ⟨⟨rfl, hoperand, rfl⟩, htarget⟩
    exact action?_of_codes hoperand htarget

end

/-! ## The definition that a SET CUE body says -/

theorem chain?_iff {own : Fin 4} {members : List Byte} {chain : Bank 4 Bool} :
    chain? own (members.map BitVec.toNat) = some chain ↔
      (members.Nodup ∧ ∀ m ∈ members, m.toNat < 4 ∧ m.toNat ≠ own.val) ∧
        ∀ k, chain.get k = true ↔ ∃ m ∈ members, m.toNat = k.val := by
  have hcontains : ∀ k : Fin 4, (members.map BitVec.toNat).contains k.val = true ↔ ∃ m ∈ members, m.toNat = k.val :=
    fun k => by rw [List.contains_iff_mem, List.mem_map]
  unfold chain?
  rw [Option.ite_none_right_eq_some, Option.some.injEq, nodup_map_toNat, List.forall_mem_map]
  refine and_congr_right fun _ => ⟨?_, fun h => ?_⟩
  · rintro rfl k
    rw [Bank.get_ofFn]
    exact hcontains k
  · apply Bank.ext_get
    intro k
    rw [Bank.get_ofFn, Bool.eq_iff_iff, hcontains k, h k]

/-- SET CUE reads exactly the definition that its body says. -/
theorem set?_iff {j : Fin 4} {cause operand action first second low high rep notify : Byte} {members : List Byte}
    {index : Nat} {c : CueSet} :
    CueBody.set? ⟨index, cause.toNat, operand.toNat, action.toNat, first.toNat, second.toNat,
        low.toNat + 256 * high.toNat, rep.toNat, notify.toNat, members.map BitVec.toNat⟩ j = some c ↔
      c.SaidBy j cause operand action first second low high rep notify members := by
  unfold CueBody.set?
  simp only [Option.bind_eq_some_iff, cause?_iff, action?_iff, repeat_ofCode_iff, chain?_iff,
    Option.ite_none_right_eq_some, Option.some.injEq]
  constructor
  · rintro ⟨cause, hcause, action, ⟨haction, htarget⟩, rep, hrep, chain, ⟨hdistinct, hchain⟩, hnotify, rfl⟩
    refine ⟨hcause, haction, htarget, hrep, ?_, hdistinct, hchain, rfl, rfl⟩
    obtain hzero | hone : notify.toNat = 0 ∨ notify.toNat = 1 := by omega
    · rw [hzero]; rfl
    · rw [hone]; rfl
  · rintro ⟨hcause, haction, htarget, hrep, hnotify, hdistinct, hchain, henabled, hcount⟩
    refine ⟨c.cause, hcause, c.action, ⟨haction, htarget⟩, c.rep, hrep, c.chain, ⟨hdistinct, hchain⟩, ?_, ?_⟩
    · rw [hnotify]; split <;> decide
    · have hflag : (notify.toNat == 1) = c.notify := by
        rw [hnotify]
        cases c.notify <;> rfl
      rw [hflag, ← henabled, ← hcount]

theorem namesFixed_iff (a : Action) : a.namesFixed = true ↔
    (∃ v, a = .setTarget (.cell .uplink .far) v) ∨ a = .fade (.cell .uplink .far) ∨ a = .cut (.cell .uplink .far) := by
  cases a <;> simp [Action.namesFixed, isFixed_eq_true]

/-! ## The READ CUE body -/

/-- The table of the READ CUE body of set `j`, of which `c` is the record, whose action's operand is `x`, `y` and whose chain's
members, made up to three, are `m₀`, `m₁`, `m₂`. -/
def cueFields (j : Fin 4) (c : CueSet) (fault : Option CueFault) (x y : Byte) (m₀ m₁ m₂ : Nat) : List (Nat × Nat) :=
  [(1, j.val), (1, causeCode c.cause), (1, causeOperand c.cause), (1, c.action.code), (1, x.toNat), (1, y.toNat),
    (2, c.action.valueNat), (1, c.rep.code), (1, if c.notify then 1 else 0), (1, (chainMembers c.chain).length), (1, m₀),
    (1, m₁), (1, m₂), (1, if c.enabled then 1 else 0), (2, c.fireCount), (1, fault.elim 0 fun _ => 1),
    (1, fault.elim 0 fun f => f.set.val), (1, fault.elim 0 fun f => f.reason.code)]

section
variable {s : State} {j : Fin 4} {x y : Byte} {m₀ m₁ m₂ : Nat}

theorem cueBody_eq_layOut (hoperand : (s.cues.get j).action.operandBytes = [x, y])
    (hmembers : chainMembers (s.cues.get j).chain ++
      List.replicate (3 - (chainMembers (s.cues.get j).chain).length) 0 = [m₀, m₁, m₂]) :
    s.cueBody j = layOut (cueFields j (s.cues.get j) s.cueFault x y m₀ m₁ m₂) := by
  unfold State.cueBody
  simp only [hoperand, hmembers]
  cases s.cueFault <;>
    simp [cueFields, layOut, byte1, byte2, flagCode, leBytes_one_toNat]

theorem length_chainMembers_of_own {chain : Bank 4 Bool} (h : chain.get j = false) : (chainMembers chain).length ≤ 3 := by
  have hlt : ((List.finRange 4).filter chain.get).length < (List.finRange 4).length :=
    List.length_filter_lt_length_iff_exists.mpr ⟨j, List.mem_finRange j, by simp [h]⟩
  rw [List.length_finRange] at hlt
  rw [chainMembers, List.length_map]
  omega

theorem mem_chainMembers_lt {chain : Bank 4 Bool} {m : Nat} (h : m ∈ chainMembers chain) : m < 4 := by
  obtain ⟨i, -, rfl⟩ := List.mem_map.mp h
  exact i.isLt

/-- The members of a chain that leaves its own set out, made up to three with zeros. -/
theorem exists_members {chain : Bank 4 Bool} (h : chain.get j = false) : ∃ m₀ m₁ m₂,
    chainMembers chain ++ List.replicate (3 - (chainMembers chain).length) 0 = [m₀, m₁, m₂] ∧
      m₀ < 4 ∧ m₁ < 4 ∧ m₂ < 4 := by
  have hlen := length_chainMembers_of_own h
  obtain ⟨m₀, m₁, m₂, hmembers⟩ := List.length_eq_three.mp
    (show (chainMembers chain ++ List.replicate (3 - (chainMembers chain).length) 0).length = 3 by simp; omega)
  have hlt : ∀ m ∈ [m₀, m₁, m₂], m < 4 := by
    intro m hm
    rw [← hmembers, List.mem_append, List.mem_replicate] at hm
    rcases hm with hm | ⟨-, rfl⟩
    · exact mem_chainMembers_lt hm
    · decide
  exact ⟨m₀, m₁, m₂, hmembers, hlt _ (by simp), hlt _ (by simp), hlt _ (by simp)⟩

theorem getD_append_replicate (members : List Nat) (n k : Nat) :
    (members ++ List.replicate n 0).getD k 0 = members.getD k 0 := by
  rw [List.getD_eq_getElem?_getD, List.getD_eq_getElem?_getD, List.getElem?_append]
  split
  · rfl
  · rw [List.getElem?_replicate, List.getElem?_eq_none (by omega)]
    split <;> rfl

theorem causeCode_lt (c : Option Cause) : causeCode c < 256 := by
  rcases c with _ | c
  · decide
  · cases c <;> simp [causeCode]

theorem causeOperand_lt (c : Option Cause) : causeOperand c < 256 := by
  rcases c with _ | c
  · decide
  · cases c with
    | linkLive i | linkLeftLive i | talkStart i | talkEnd i | lowFill i | timer i =>
      have hi := i.isLt
      simp only [causeOperand]
      omega
    | clip o => exact (output_code_le o).trans_lt (by decide)
    | clockLost | clockBack => decide

theorem valueNat_lt {a : Action} (h : ∀ g v, a = .setTarget g v → v ≤ 32767) : a.valueNat < 65536 := by
  cases a with
  | setTarget g v => exact (h g v rfl).trans_lt (by decide)
  | step o d => cases d <;> simp [Action.valueNat, Direction.code]
  | _ => simp [Action.valueNat]

theorem action_code_lt (a : Action) : a.code < 256 := by cases a <;> simp [Action.code]

theorem cueFields_fit {c : CueSet} {fault : Option CueFault} (h : c.InOrder j) (h₀ : m₀ < 4) (h₁ : m₁ < 4) (h₂ : m₂ < 4) :
    FieldsFit (cueFields j c fault x y m₀ m₁ m₂) := by
  have hj := j.isLt
  have hcode := causeCode_lt c.cause
  have hoperand := causeOperand_lt c.cause
  have haction := action_code_lt c.action
  have hx := x.isLt
  have hy := y.isLt
  have hvalue := valueNat_lt h.target
  have hrep : c.rep.code < 256 := by cases c.rep <;> decide
  have hmembers := length_chainMembers_of_own h.chain
  have hcount := h.fireCount
  have hset : (fault.elim 0 fun f => f.set.val) < 4 := by
    cases fault with
    | none => decide
    | some f => exact f.set.isLt
  have hreason : (fault.elim 0 fun f => f.reason.code) < 3 := by
    rcases fault with _ | ⟨set, _ | _⟩ <;> simp [FaultReason.code]
  have hmark : (fault.elim 0 fun _ => 1) < 2 := by cases fault <;> simp
  have hflag (b : Bool) : (if b then 1 else 0) < 2 := by cases b <;> decide
  have hnotify := hflag c.notify
  have henabled := hflag c.enabled
  simp only [FieldsFit, cueFields, List.forall_mem_cons, List.not_mem_nil, false_implies, implies_true, and_true]
  and_intros <;> omega

end

end Sys2Proof.Machine
end

section
/-! PROOFS. SET CUE, ENABLE CUE, DISABLE CUE and READ CUE (R167, R168, R170). -/

namespace Sys2Proof.Machine

open Sys2Proof

section
variable {s : State} {tag set : Byte}

theorem exec_setCue_of_holds {cause operand action first second low high rep notify count : Byte} {members : List Byte}
    (hlen : members.length ≤ 3) (hcount : count.toNat = members.length)
    (h : s.Holds 0x12 tag
      ([set, cause, operand, action, first, second, low, high, rep, notify, count] ++ members)) :
    exec .setCue s = .next ((setCue s ⟨set.toNat, cause.toNat, operand.toNat, action.toNat, first.toNat, second.toNat,
      low.toNat + 256 * high.toNat, rep.toNat, notify.toNat, members.map BitVec.toNat⟩).answer 0x12 tag) := by
  refine congrArg Host.Outcome.next (takeRequest_of_holds bodyCue setCue h ?_ ?_)
  · simp only [List.length_append, List.length_cons, List.length_nil]
    omega
  · exact if_pos ⟨hlen, hcount⟩

theorem exec_enableCue_of_holds (h : s.Holds 0x13 tag [set]) :
    exec .enableCue s = .next ((enableCue s set.toNat).answer 0x13 tag) :=
  congrArg Host.Outcome.next (takeRequest_of_holds bodyByte enableCue h (by simp) rfl)

theorem exec_disableCue_of_holds (h : s.Holds 0x14 tag [set]) :
    exec .disableCue s = .next ((disableCue s set.toNat).answer 0x14 tag) :=
  congrArg Host.Outcome.next (takeRequest_of_holds bodyByte disableCue h (by simp) rfl)

theorem exec_readCue_of_holds (h : s.Holds 0x16 tag [set]) :
    exec .readCue s = .next ((readCue s set.toNat).answer 0x16 tag) :=
  congrArg Host.Outcome.next (takeRequest_of_holds bodyByte readCue h (by simp) rfl)

end

theorem causeCodes : CauseCodes :=
  ⟨⟨rfl, rfl⟩, fun _ => ⟨rfl, rfl, rfl, rfl, rfl, by rintro c (rfl | rfl | rfl | rfl | rfl) <;> rfl⟩, fun _ => ⟨rfl, rfl⟩,
    fun _ => ⟨rfl, rfl⟩, rfl, rfl, rfl, rfl⟩

theorem actionCodes : ActionCodes :=
  ⟨⟨rfl, rfl, rfl⟩, fun _ _ => ⟨rfl, rfl, rfl⟩, fun _ => ⟨rfl, rfl, rfl⟩, fun _ => ⟨rfl, rfl, rfl⟩,
    fun _ => ⟨rfl, rfl, fun _ => ⟨rfl, rfl⟩⟩, fun _ => ⟨rfl, rfl, by rintro a (rfl | rfl) <;> exact ⟨rfl, rfl⟩⟩,
    fun _ _ => ⟨rfl, rfl, rfl⟩⟩

/-- Settles O35: SET CUE reads what its body says; the two others test the index and the flag. -/
theorem setEnableAndDisableCue : Obligations.SetEnableAndDisableCue := by
  refine ⟨causeCodes, actionCodes, ⟨rfl, rfl⟩, ⟨rfl, fun _ => rfl⟩, ⟨rfl, rfl⟩,
    fun s tag set cause operand action first second low high rep notify count members hlen hcount h => ?_,
    fun s tag set => ⟨fun h habove => ?_, fun h habove => ?_, fun j hj =>
      ⟨fun h => ⟨fun hfault => ?_, fun hclear => ?_⟩, fun h => ?_⟩⟩⟩
  · rw [exec_setCue_of_holds hlen hcount h]
    refine ⟨fun habove => ?_, fun j hj => ⟨fun hunsaid => ?_, fun c hsaid => ⟨fun hfixed => ?_, fun hfree => ?_⟩⟩⟩
    · have hnone : index? 4 set.toNat = none := index?_eq_none.mpr habove
      simp only [setCue, hnone, answer_refuse]
    · have hnone := Option.eq_none_iff_forall_ne_some.mpr fun c hc => hunsaid c (set?_iff (index := set.toNat).mp hc)
      simp only [setCue, index?_eq_some.mpr hj, hnone, answer_refuse]
    · simp only [setCue, index?_eq_some.mpr hj, set?_iff.mpr hsaid, if_pos ((namesFixed_iff _).mpr hfixed), answer_refuse]
    · have hnot : ¬c.action.namesFixed = true := mt (namesFixed_iff _).mp hfree
      simp only [setCue, index?_eq_some.mpr hj, set?_iff.mpr hsaid, if_neg hnot]
      exact congrArg _ (answer_of_no_causes _ _ _ rfl)
  · have hnone : index? 4 set.toNat = none := index?_eq_none.mpr habove
    simp only [exec_enableCue_of_holds h, enableCue, hnone, answer_refuse]
  · have hnone : index? 4 set.toNat = none := index?_eq_none.mpr habove
    simp only [exec_disableCue_of_holds h, disableCue, hnone, answer_refuse]
  · have hsome : s.cueFault.isSome = true := Option.isSome_iff_ne_none.mpr hfault
    simp only [exec_enableCue_of_holds h, enableCue, index?_eq_some.mpr hj, if_pos hsome, answer_refuse]
  · have hnot : ¬s.cueFault.isSome = true := by simp [hclear]
    simp only [exec_enableCue_of_holds h, enableCue, index?_eq_some.mpr hj, if_neg hnot]
    exact congrArg _ (answer_of_no_causes _ _ _ rfl)
  · simp only [exec_disableCue_of_holds h, disableCue, index?_eq_some.mpr hj]
    exact congrArg _ (answer_of_no_causes _ _ _ rfl)

/-- Settles O36: the body is a table of fields, each of which fits its width. -/
theorem readCueTellsTheWholeSet : Obligations.ReadCueTellsTheWholeSet := by
  refine ⟨causeCodes, actionCodes, ⟨rfl, rfl⟩, ⟨rfl, fun _ => rfl⟩, ⟨rfl, rfl⟩, ⟨rfl, rfl⟩, fun s tag set h => ?_⟩
  rw [exec_readCue_of_holds h]
  refine ⟨fun habove => ?_, fun j hj => ⟨s.cueBody j, ?_, fun hin => ?_⟩⟩
  · have hnone : index? 4 set.toNat = none := index?_eq_none.mpr habove
    simp only [readCue, hnone, answer_refuse]
  · simp only [readCue, index?_eq_some.mpr hj]
    exact congrArg _ (answer_of_no_causes _ _ _ rfl)
  obtain ⟨x, y, hoperand⟩ := List.length_eq_two.mp (length_operandBytes (s.cues.get j).action)
  obtain ⟨m₀, m₁, m₂, hmembers, h₀, h₁, h₂⟩ := exists_members hin.chain
  have hfit := cueFields_fit (fault := s.cueFault) (x := x) (y := y) hin h₀ h₁ h₂
  rw [cueBody_eq_layOut hoperand hmembers]
  have byte {k v : Nat} (h : fieldAt (cueFields j (s.cues.get j) s.cueFault x y m₀ m₁ m₂) k = some (1, v)) :=
    byteAt_of_fit hfit h
  have word {k v : Nat} (h : fieldAt (cueFields j (s.cues.get j) s.cueFault x y m₀ m₁ m₂) k = some (2, v)) :=
    wordAt_of_fit hfit h
  refine ⟨rfl, byte rfl, byte rfl, byte rfl, byte rfl, ?_, word rfl, byte rfl, byte rfl, byte rfl, fun k hk => ?_,
    byte rfl, word rfl, fun hnone => ?_, fun f hf => ?_⟩
  · rw [hoperand]
    simp [layOut, cueFields, leBytes]
  · have hget : ((chainMembers (s.cues.get j).chain).getD k 0) = [m₀, m₁, m₂].getD k 0 := by
      rw [← hmembers, getD_append_replicate]
    refine Eq.trans ?_ hget.symm
    obtain rfl | rfl | rfl : k = 0 ∨ k = 1 ∨ k = 2 := by omega
    · exact byte rfl
    · exact byte rfl
    · exact byte rfl
  · have absent {v : CueFault → Nat} : s.cueFault.elim 0 v = 0 := by rw [hnone]; rfl
    exact ⟨(byte rfl).trans absent, (byte rfl).trans absent, (byte rfl).trans absent⟩
  · have present {v : CueFault → Nat} : s.cueFault.elim 0 v = v f := by rw [hf]; rfl
    exact ⟨(byte rfl).trans present, (byte rfl).trans present, (byte rfl).trans present⟩

end Sys2Proof.Machine
end

section
/-! SUPPORT. What a call end makes of the part, and the CLEAR CLIP and READ PORT COUNTERS bodies as tables (R22, R129, R148,
R153, section 11.2). -/

namespace Sys2Proof.Machine

open Sys2Proof

/-! ## Steps of all records -/

/-- A step of all records that loses no sample changes nothing but the records, the change flags and LINK. -/
theorem stepLinks_rest_of_not_lossy (e : Event) {f : Fin 8 → LinkRecord → LinkStep} (h : ∀ i r, (f i r).lossy = false) :
    (e.stepLinks f).st = { e.st with
      slots := (e.stepLinks f).st.slots
      linkChanges := (e.stepLinks f).st.linkChanges
      notices := { e.st.notices with link := (e.stepLinks f).st.notices.link } } := by
  have hqueue := stepLinks_queue_of_not_lossy e f h
  have hrest := stepLinks_rest e f
  rwa [hqueue] at hrest

/-! ## The end of a call -/

theorem endCall_st (e : Event) : e.endCall.st = (Event.start e.st).endCall.st := rfl

theorem endCall_causes (e : Event) : e.endCall.causes = e.causes ++ (Event.start e.st).endCall.causes := rfl

theorem get?_endCall (g : Gains) (name : GainName) :
    g.endCall.get? name = (g.get? name).map fun x => { x with current := 0 } := get?_mapAll ..

theorem endCall_changed {r : LinkRecord} {i : Fin 8} : (r.endCall i).changed = true ↔ r.state ≠ .standby := bne_iff_ne

theorem mem_endCall_causes {r : LinkRecord} {i : Fin 8} {c : Cause} :
    c ∈ (r.endCall i).causes ↔ r.state = .live ∧ c = .linkLeftLive i := by
  by_cases h : r.state = .live <;> simp [LinkRecord.endCall, h]

/-- A call end, by its stages. -/
theorem callEnded_endCall (s : State) : s.CallEnded (Event.start s).endCall.st (Event.start s).endCall.causes where
  slots i := stepLinks_slots (Event.start s) (fun i r => r.endCall i) i
  linkChanges i := (stepLinks_linkChanges (Event.start s) (fun i r => r.endCall i) i).trans
    (or_congr_right (exists_congr fun _ => and_congr_right fun _ => endCall_changed))
  link := (stepLinks_link (Event.start s) (fun i r => r.endCall i)).trans
    (or_congr_right (exists₂_congr fun _ _ => and_congr_right fun _ => endCall_changed))
  seats i := Bank.get_map s.seats SeatRecord.endCall i
  seatChanges i := by
    have h : (Event.start s).endCall.st.seatChanges.get i = (s.seatChanges.get i || (s.seats.get i).voice.isSome) :=
      Bank.get_mapIdx ..
    rw [h, Bool.or_eq_true, Option.isSome_iff_ne_none]
  seat := by
    have h : (Event.start s).endCall.st.notices.seat = (s.notices.seat || s.seats.any fun _ r => r.voice.isSome) := rfl
    simp only [h, Bool.or_eq_true, Bank.any_eq_true, Option.isSome_iff_ne_none]
  gains g := get?_endCall s.gains g
  ceiling := rfl
  causes c := by
    have h : c ∈ (Event.start s).endCall.causes ↔ _ := mem_stepLinks_causes (Event.start s) (fun i r => r.endCall i) c
    rw [h]
    simp only [Event.start, List.not_mem_nil, false_or, mem_endCall_causes]
  rest := congrArg (fun x : State => x.noteCallEnd.stopEngine)
    (stepLinks_rest_of_not_lossy (Event.start s) (f := fun i r => r.endCall i) fun _ _ => rfl)

/-! ## Clips and port counters -/

/-- A two-byte field of a table tells its value where that fits, whatever the other fields hold. -/
theorem wordAt_of_small {fields : List (Nat × Nat)} {k v : Nat} (h : fieldAt fields k = some (2, v)) (hv : v ≤ 65535) :
    wordAt (layOut fields) k = v := by
  have h0 := byteAt_layOut h 0 (by omega)
  have h1 := byteAt_layOut h 1 (by omega)
  rw [Nat.add_zero] at h0
  rw [wordAt, h0, h1]
  omega

/-- The table of the CLEAR CLIP body. -/
def State.clipFields (s : State) : List (Nat × Nat) :=
  Output.all.flatMap fun o => [(1, flagCode (s.clipOf o).flag), (2, (s.clipOf o).count)]

theorem clipBody_eq_layOut (s : State) : s.clipBody = layOut s.clipFields := by
  rw [State.clipBody, layOut, State.clipFields, List.flatMap_assoc]
  simp [byte1, byte2]

theorem fieldAt_clipFields (s : State) (o : Output) :
    fieldAt s.clipFields (3 * o.code) = some (1, flagCode (s.clipOf o).flag) ∧
      fieldAt s.clipFields (3 * o.code + 1) = some (2, (s.clipOf o).count) := by
  cases o with
  | uplink => exact ⟨rfl, rfl⟩
  | down i => fin_cases i <;> exact ⟨rfl, rfl⟩

theorem output_ofCode_of_above {v : Nat} (h : 4 < v) : Output.ofCode v = none := by
  cases hv : Output.ofCode v with
  | none => rfl
  | some o =>
    have hle := output_code_le o
    rw [(output_ofCode_iff _ _).mp hv] at hle
    omega

theorem output_ofCode_isSome {v : Nat} (h : v ≤ 4) : (Output.ofCode v).isSome = true := by
  cases v with
  | zero => rfl
  | succ v => rw [Output.ofCode, index?_eq_some.mpr (show (⟨v, by omega⟩ : Fin 4).val = v from rfl)]; rfl

theorem outputs?_of_wrong {body : List Byte} (h : ¬body.Nodup ∨ ∃ b ∈ body, 4 < b.toNat) :
    outputs? (body.map BitVec.toNat) = none := by
  unfold outputs?
  split
  next hnodup =>
    rcases h with h | ⟨b, hb, habove⟩
    · exact absurd ((nodup_map_toNat body).mp hnodup) h
    · exact mapM_eq_none_of_mem (List.mem_map_of_mem hb) (output_ofCode_of_above habove)
  · rfl

theorem outputs?_of_right {body : List Byte} (h : ¬(¬body.Nodup ∨ ∃ b ∈ body, 4 < b.toNat)) :
    ∃ os, outputs? (body.map BitVec.toNat) = some os ∧ ∀ o : Output, o ∈ os ↔ ∃ b ∈ body, b.toNat = o.code := by
  simp only [not_or, not_not, not_exists, not_and, not_lt] at h
  obtain ⟨hnodup, hle⟩ := h
  obtain ⟨os, hos⟩ := exists_mapM_eq_some (f := Output.ofCode) (xs := body.map BitVec.toNat) (by
    intro v hv
    obtain ⟨b, hb, rfl⟩ := List.mem_map.mp hv
    exact output_ofCode_isSome (hle b hb))
  refine ⟨os, ?_, fun o => ?_⟩
  · rw [outputs?, if_pos ((nodup_map_toNat body).mpr hnodup), hos]
  · rw [mem_of_mapM_ofCode output_ofCode_iff hos, List.mem_map]

/-- The table of the READ PORT COUNTERS body. -/
def State.portFields (s : State) : List (Nat × Nat) :=
  [(2, s.radio.formatErrors), (2, s.radio.unmatched), (2, s.radio.idleDiscards), (2, s.radio.statusOnly),
    (2, s.radio.framesSent), (2, s.pcm.farEndSlips), (2, s.pcm.uplinkSlips), (1, s.pcm.lock.code), (1, s.engine.code),
    (2, s.holdover)]

theorem portBody_eq_layOut (s : State) : s.portBody = layOut s.portFields := by
  simp [State.portBody, State.portFields, layOut, byte1, byte2]

theorem lock_code_lt (l : LockState) : l.code < 256 := by cases l <;> decide

theorem engine_code_lt (e : EngineState) : e.code < 256 := by cases e <;> decide

end Sys2Proof.Machine
end

section
/-! PROOFS. CALL START, CALL END, CALL CLEAR, CLEAR CLIP and READ PORT COUNTERS (R129, R144, R148, R149, R153). -/

namespace Sys2Proof.Machine

open Sys2Proof

section
variable {s : State} {tag : Byte}

theorem exec_callStart_of_holds (h : s.Holds 0x17 tag []) :
    exec .callStart s = .next ((callStart s ()).answer 0x17 tag) :=
  congrArg Host.Outcome.next (takeRequest_of_holds bodyNone callStart h (by simp) rfl)

theorem exec_callEnd_of_holds (h : s.Holds 0x18 tag []) : exec .callEnd s = .next ((callEnd s ()).answer 0x18 tag) :=
  congrArg Host.Outcome.next (takeRequest_of_holds bodyNone callEnd h (by simp) rfl)

theorem exec_callClear_of_holds (h : s.Holds 0x19 tag []) :
    exec .callClear s = .next ((callClear s ()).answer 0x19 tag) :=
  congrArg Host.Outcome.next (takeRequest_of_holds bodyNone callClear h (by simp) rfl)

theorem exec_clearClip_of_holds {body : List Byte} (hlen : body.length ≤ 5) (h : s.Holds 0x1D tag body) :
    exec .clearClip s = .next ((clearClip s (body.map BitVec.toNat)).answer 0x1D tag) :=
  congrArg Host.Outcome.next (takeRequest_of_holds bodyOutputs clearClip h (by omega) (if_pos hlen))

theorem exec_readPortCounters_of_holds (h : s.Holds 0x1E tag []) :
    exec .readPortCounters s = .next (s.responded 0x1E tag .ok s.portBody) :=
  (congrArg Host.Outcome.next (takeRequest_of_holds bodyNone readPortCounters h (by simp) rfl)).trans
    (congrArg Host.Outcome.next (answer_of_no_causes _ _ _ rfl))

end

/-- Settles O41: CALL START by the lock state, CALL END by the stages of a call end. -/
theorem callStartAndCallEnd : Obligations.CallStartAndCallEnd := by
  intro s tag
  refine ⟨fun h => ⟨fun hrunning => ?_, fun hstopped hlocked => ?_, fun hstopped hunlocked => ?_⟩,
    fun h => ⟨fun hstopped => ?_, fun hrunning => ⟨_, _, callEnded_endCall s, ?_⟩⟩⟩
  · rw [exec_callStart_of_holds h, callStart, if_neg hrunning, answer_refuse]
  · simp only [exec_callStart_of_holds h, callStart, if_pos hstopped, if_pos hlocked]
    exact congrArg _ (answer_of_no_causes _ _ _ rfl)
  · have hnot : ¬s.pcm.lock = .locked := by simp [hunlocked]
    simp only [exec_callStart_of_holds h, callStart, if_pos hstopped, if_neg hnot, if_true]
    rfl
  · rw [exec_callEnd_of_holds h, callEnd, if_pos hstopped, answer_refuse]
  · rw [exec_callEnd_of_holds h, callEnd, if_neg hrunning]
    rfl

/-- Settles O42: CALL CLEAR, block by block. -/
theorem callClearClearsTheCall : Obligations.CallClearClearsTheCall := by
  intro s tag h
  refine ⟨s.clearCall, ?_, fun i => Bank.get_map .., fun i => Bank.get_map .., get?_endCall s.gains, rfl,
    fun i => Bank.get_map .., fun j => Bank.get_map .., fun o => ?_, Bank.get_fill false, Bank.get_fill false, rfl⟩
  · rw [exec_callClear_of_holds h, answer_of_no_causes _ _ _ rfl]
    rfl
  · cases o with
    | uplink => rfl
    | down d => exact Bank.get_fill _ d

/-- Settles O43: the flags of the named outputs cleared, and the two bodies as tables. -/
theorem clearClipAndReadPortCounters : Obligations.ClearClipAndReadPortCounters := by
  refine ⟨⟨rfl, fun _ => rfl⟩, ⟨rfl, rfl, rfl, rfl, rfl⟩, fun s tag body hlen h => ?_, fun s tag h =>
    ⟨s.portBody, exec_readPortCounters_of_holds h, rfl, ?_, ?_, fun hreports hholdover => ?_⟩⟩
  · rw [exec_clearClip_of_holds hlen h]
    refine ⟨fun hwrong => ?_, fun hright => ?_⟩
    · rw [clearClip, outputs?_of_wrong hwrong]
      exact congrArg _ (answer_refuse ..)
    · obtain ⟨os, hos, hmem⟩ := outputs?_of_right hright
      refine ⟨s.mapClips fun o c => { c with flag := c.flag && !os.contains o }, s.clipBody, ?_, rfl, rfl, fun o => ?_⟩
      · rw [clearClip, hos]
        exact congrArg _ (answer_of_no_causes _ _ _ rfl)
      obtain ⟨hflag, hcount⟩ := fieldAt_clipFields s o
      rw [clipOf_mapClips, clipBody_eq_layOut]
      refine ⟨rfl, ?_, byteAt_of_small hflag ?_, wordAt_of_small hcount⟩
      · simp only [Bool.and_eq_true, Bool.not_eq_true', ← Bool.not_eq_true, List.contains_iff_mem, hmem, not_exists,
          not_and]
      · cases (s.clipOf o).flag <;> decide
  · rw [portBody_eq_layOut]
    exact byteAt_of_small rfl (lock_code_lt _)
  · rw [portBody_eq_layOut]
    exact byteAt_of_small rfl (engine_code_lt _)
  · obtain ⟨hformat, hunmatched, hidle, hstatus, hsent⟩ := hreports.radio
    obtain ⟨hfar, huplink⟩ := hreports.slips
    rw [portBody_eq_layOut]
    exact ⟨wordAt_of_small rfl hformat, wordAt_of_small rfl hunmatched, wordAt_of_small rfl hidle,
      wordAt_of_small rfl hstatus, wordAt_of_small rfl hsent, wordAt_of_small rfl hfar, wordAt_of_small rfl huplink,
      wordAt_of_small rfl hholdover⟩

end Sys2Proof.Machine
end

section
/-! SUPPORT. The arithmetic of the two resamplers (R65 to R68, R79, R80). -/

namespace Sys2Proof.Machine

open Sys2Proof

/-! ## Samples -/

theorem toInt_toSample {v : Int} (hlow : -32768 ≤ v) (hhigh : v ≤ 32767) : (toSample v).toInt = v :=
  BitVec.toInt_ofInt_eq_self (by decide) (by omega) (by omega)

theorem sample_toInt_bounds (x : Sample) : -32768 ≤ x.toInt ∧ x.toInt ≤ 32767 := by
  have hlow := x.le_toInt
  have hhigh := x.toInt_lt
  omega

/-- A part of a difference, rounded half up, lies between 0 and the difference. -/
theorem part_between (D : Int) {f : Nat} (hf : f ≤ 32767) :
    min 0 D ≤ (D * f + 16384) / 32768 ∧ (D * f + 16384) / 32768 ≤ max 0 D := by
  obtain hD | hD := le_total 0 D
  · have hlow : 0 ≤ D * f := by positivity
    have hhigh : D * f ≤ D * 32767 := mul_le_mul_of_nonneg_left (by exact_mod_cast hf) hD
    omega
  · have hlow : D * 32767 ≤ D * f := mul_le_mul_of_nonpos_left (by exact_mod_cast hf) hD
    have hhigh : D * f ≤ 0 := mul_nonpos_of_nonpos_of_nonneg hD (by positivity)
    omega

/-- Interpolation is exact, since its value lies between the two samples. -/
theorem toInt_interpolate (x₀ x₁ : Sample) {f : Nat} (hf : f ≤ 32767) :
    (interpolate x₀ x₁ f).toInt = x₀.toInt + ((x₁.toInt - x₀.toInt) * f + 16384) / 32768 := by
  obtain ⟨hlow, hhigh⟩ := part_between (x₁.toInt - x₀.toInt) hf
  obtain ⟨hlow₀, hhigh₀⟩ := sample_toInt_bounds x₀
  obtain ⟨hlow₁, hhigh₁⟩ := sample_toInt_bounds x₁
  exact toInt_toSample (by omega) (by omega)

theorem toInt_sampleAtPosition (xs : List Sample) (p : Nat) : (sampleAtPosition xs p).toInt = between xs p :=
  toInt_interpolate _ _ (by simp only [Config.one]; omega)

/-! ## The uplink -/

theorem neededCount_eq (f : Nat) (d : Int) : neededCount f d = (f + 63 * ((16777216 : Int) + d).toNat) / 2 ^ 24 + 2 := rfl

theorem consumedCount_eq (f : Nat) (d : Int) : consumedCount f d = (f + 64 * ((16777216 : Int) + d).toNat) / 2 ^ 24 := rfl

theorem carriedPhase_eq (f : Nat) (d : Int) : carriedPhase f d = (f + 64 * ((16777216 : Int) + d).toNat) % 2 ^ 24 := rfl

/-! ## The downlink -/

theorem downlinkCount_eq (q : Nat) (d : Int) :
    downlinkCount q d =
      (64 * 2 ^ 24 - q + (((16777216 : Int) - d).toNat - 1)) / ((16777216 : Int) - d).toNat := rfl

theorem carriedPosition_eq (q : Nat) (d : Int) :
    carriedPosition q d = q + downlinkCount q d * ((16777216 : Int) - d).toNat - 64 * 2 ^ 24 := rfl

/-- A quotient rounded up counts the multiples below the number. -/
theorem lt_ceil_iff {a step : Nat} (hstep : 0 < step) (k : Nat) : k < (a + (step - 1)) / step ↔ k * step < a := by
  rw [Nat.lt_iff_add_one_le, Nat.le_div_iff_mul_le hstep, Nat.add_mul, Nat.one_mul]
  omega

/-- A completion produces exactly the outputs whose positions lie below 64 samples. -/
theorem lt_downlinkCount_iff {d : Int} (hd : d ≤ 16384) (q k : Nat) :
    k < downlinkCount q d ↔ q + k * ((16777216 : Int) - d).toNat < 64 * 2 ^ 24 := by
  rw [downlinkCount_eq, lt_ceil_iff (by omega)]
  omega

/-- The position after the last output is 64 samples and the carried position. -/
theorem carriedPosition_add {d : Int} (hd : d ≤ 16384) (q : Nat) :
    carriedPosition q d + 64 * 2 ^ 24 = q + downlinkCount q d * ((16777216 : Int) - d).toNat := by
  have hlast := lt_downlinkCount_iff hd q (downlinkCount q d)
  rw [carriedPosition_eq]
  omega

/-- Where an output is produced, the carried position is less than one step. -/
theorem carriedPosition_lt {d : Int} (hd : d ≤ 16384) {q : Nat} (h : 0 < downlinkCount q d) :
    carriedPosition q d < ((16777216 : Int) - d).toNat := by
  obtain ⟨k, hk⟩ : ∃ k, downlinkCount q d = k + 1 := ⟨downlinkCount q d - 1, by omega⟩
  have hlast := (lt_downlinkCount_iff hd q k).mp (by omega)
  have hsum := carriedPosition_add hd q
  rw [hk, Nat.add_mul, Nat.one_mul] at hsum
  omega

end Sys2Proof.Machine
end

section
/-! PROOFS. The bounds of the resamplers (R66 to R68, R79, R80). -/

namespace Sys2Proof.Machine

open Sys2Proof

/-- Settles O52: the uplink counts are linear, the downlink count counts the positions below 64 samples, and interpolation lies
between its samples. -/
theorem resamplersStayInTheirBounds : Obligations.ResamplersStayInTheirBounds := by
  refine ⟨fun f d hf hlow hhigh => ?_, fun q d hq hlow hhigh => ?_, fun x₀ x₁ f hf => ?_⟩
  · rw [neededCount_eq, consumedCount_eq, carriedPhase_eq]
    and_intros <;> omega
  · have hstep : (((16777216 : Int) - d).toNat : Int) = 16777216 - d := Int.toNat_of_nonneg (by omega)
    have hcount := lt_downlinkCount_iff hhigh q
    have hmin : 63 ≤ downlinkCount q d := (hcount 62).mpr (by omega)
    have hmax : downlinkCount q d ≤ 65 := not_lt.mp fun h => absurd ((hcount 65).mp h) (by omega)
    have hcarried := carriedPosition_add hhigh q
    have hlt := carriedPosition_lt hhigh (q := q) (by omega)
    refine ⟨hmin, hmax, fun k => ?_, ?_, by omega⟩
    · rw [hcount k, ← hstep]
      norm_cast
    · have hcarried := congrArg (Nat.cast (R := Int)) hcarried
      rw [Nat.cast_add, Nat.cast_add, Nat.cast_mul, Nat.cast_mul, Nat.cast_pow, hstep] at hcarried
      exact eq_sub_of_add_eq hcarried
  · obtain ⟨hlow, hhigh⟩ := part_between (x₁.toInt - x₀.toInt) hf
    rw [toInt_interpolate x₀ x₁ hf]
    refine ⟨rfl, ?_, ?_⟩ <;> omega

end Sys2Proof.Machine
end

section
/-! SUPPORT. Sums, voices, crossfades and effective gains (R94, R125 to R127). -/

namespace Sys2Proof.Machine

open Sys2Proof

theorem heldTo_eq {lo hi : Int} (h : lo ≤ hi) (v : Int) : heldTo lo hi v = max lo (min hi v) := by
  unfold heldTo
  split
  · omega
  · split <;> omega

/-! ## Output samples -/

theorem toInt_saturated (acc : Int) : (saturated acc).toInt = outputValue acc := by
  have h : max (-32768) (min 32767 (reduced acc)) = outputValue acc := (heldTo_eq (by decide) _).symm
  rw [saturated, toInt_toSample (by omega) (by omega), h]

theorem isSaturated_iff (acc : Int) : isSaturated acc = true ↔ Saturates acc := by
  rw [isSaturated, decide_eq_true_iff, reduced, Saturates]
  omega

theorem length_row (n : Snapshot) (o : Output) : (n.row o).length = 64 := by
  rw [Snapshot.row, List.length_map, List.length_range]

theorem getElem?_row {n : Snapshot} {o : Output} {m : Nat} {y : Sample} (h : (n.row o)[m]? = some y) :
    y = saturated (n.acc o m) := by
  rw [Snapshot.row, List.getElem?_map, Option.map_eq_some_iff] at h
  obtain ⟨k, hk, rfl⟩ := h
  rw [List.getElem?_eq_some_iff] at hk
  obtain ⟨hlt, hk⟩ := hk
  rw [← hk, List.getElem_range]

/-! ## Sums -/

theorem voiceTerms_eq_sum (n : Snapshot) (eff : Bank 4 Nat) (m : Nat) :
    n.voiceTerms eff m = ∑ t : Fin 4, (eff.get t : Int) * n.voiceSample t m := (Fin.sum_univ_def _).symm

/-! ## Voices -/

section
variable {n : Snapshot} {seat : Fin 4} {m : Nat}

theorem sideSample_of_link {side : Side} {i : Fin 8} {l : PassLink} (hi : (n.seats.get seat).link side = some i)
    (hl : n.links.get i = some l) : n.sideSample seat side m = (l.outputs.getD m 0).toInt := by
  simp only [Snapshot.sideSample, hi, Option.bind_some, hl]
  rfl

theorem sideSample_of_none {side : Side} (h : ∀ i, (n.seats.get seat).link side = some i → n.links.get i = none) :
    n.sideSample seat side m = 0 := by
  cases hi : (n.seats.get seat).link side with
  | none => simp only [Snapshot.sideSample, hi, Option.bind_none]
  | some i => simp only [Snapshot.sideSample, hi, Option.bind_some, h i hi]

/-- A side's sample is a sample of a link or 0. -/
theorem sideSample_bounds (side : Side) :
    -32768 ≤ n.sideSample seat side m ∧ n.sideSample seat side m ≤ 32767 := by
  by_cases h : ∀ i, (n.seats.get seat).link side = some i → n.links.get i = none
  · rw [sideSample_of_none h]
    decide
  · simp only [not_forall] at h
    obtain ⟨i, hi, hl⟩ := h
    obtain ⟨l, hl⟩ := Option.ne_none_iff_exists'.mp hl
    rw [sideSample_of_link hi hl]
    exact sample_toInt_bounds _

theorem voiceSample_of_silent (h : (n.seats.get seat).voice = none) : n.voiceSample seat m = 0 := by
  simp only [Snapshot.voiceSample, h]

theorem voiceSample_of_voice {side : Side} (h : (n.seats.get seat).voice = some side)
    (hx : (n.seats.get seat).crossfade = none) : n.voiceSample seat m = n.sideSample seat side m := by
  simp only [Snapshot.voiceSample, h, hx]

theorem voiceSample_of_crossfade {side : Side} {x : Crossfade} (h : (n.seats.get seat).voice = some side)
    (hx : (n.seats.get seat).crossfade = some x) :
    n.voiceSample seat m = crossfadeValue (n.sideSample seat x.old m) (n.sideSample seat side m) x.k x.n := by
  simp only [Snapshot.voiceSample, h, hx]

end

/-- A crossfade is the weighted sum rounded half up: it lies between its two sides. -/
theorem crossfadeValue_bounds (a b : Int) {k n : Nat} (hlow : 1 ≤ k) (hhigh : k ≤ n) :
    crossfadeValue a b k n * n ≤ a * (n - k : Int) + b * k + (n / 2 : Nat) ∧
      a * (n - k : Int) + b * k + (n / 2 : Nat) < (crossfadeValue a b k n + 1) * n ∧
      min a b ≤ crossfadeValue a b k n ∧ crossfadeValue a b k n ≤ max a b := by
  have hn : (0 : Int) < n := by omega
  have hk : (0 : Int) ≤ k := by omega
  have hrest : (0 : Int) ≤ n - k := by omega
  have hhalf : (((n / 2 : Nat)) : Int) < n := by omega
  have hmin : min a b * n ≤ a * (n - k : Int) + b * k := by
    calc min a b * n = min a b * (n - k : Int) + min a b * k := by ring
      _ ≤ a * (n - k : Int) + b * k :=
        add_le_add (mul_le_mul_of_nonneg_right (min_le_left a b) hrest) (mul_le_mul_of_nonneg_right (min_le_right a b) hk)
  have hmax : a * (n - k : Int) + b * k ≤ max a b * n := by
    calc a * (n - k : Int) + b * k ≤ max a b * (n - k : Int) + max a b * k :=
        add_le_add (mul_le_mul_of_nonneg_right (le_max_left a b) hrest) (mul_le_mul_of_nonneg_right (le_max_right a b) hk)
      _ = max a b * n := by ring
  refine ⟨Int.ediv_mul_le _ hn.ne', Int.lt_ediv_add_one_mul_self _ hn, Int.le_ediv_of_mul_le hn (by omega),
    Int.lt_add_one_iff.mp (Int.ediv_lt_of_lt_mul hn ?_)⟩
  rw [Int.add_mul, Int.one_mul]
  omega

theorem voiceSample_bounds {n : Snapshot} {seat : Fin 4}
    (h : ∀ x, (n.seats.get seat).crossfade = some x → 1 ≤ x.k ∧ x.k ≤ x.n) (m : Nat) :
    -32768 ≤ n.voiceSample seat m ∧ n.voiceSample seat m ≤ 32767 := by
  cases hv : (n.seats.get seat).voice with
  | none =>
    rw [voiceSample_of_silent hv]
    decide
  | some side =>
    obtain ⟨hlow, hhigh⟩ := sideSample_bounds (n := n) (seat := seat) (m := m) side
    cases hx : (n.seats.get seat).crossfade with
    | none =>
      rw [voiceSample_of_voice hv hx]
      exact ⟨hlow, hhigh⟩
    | some x =>
      obtain ⟨hone, hle⟩ := h x hx
      obtain ⟨hlow', hhigh'⟩ := sideSample_bounds (n := n) (seat := seat) (m := m) x.old
      obtain ⟨-, -, hmin, hmax⟩ := crossfadeValue_bounds (n.sideSample seat x.old m) (n.sideSample seat side m) hone hle
      rw [voiceSample_of_crossfade hv hx]
      omega

/-- One source's term of a sum. -/
theorem term_bounds {eff : Nat} {x : Int} (heff : eff ≤ 32767) (hx : -32768 ≤ x ∧ x ≤ 32767) :
    -1073709056 ≤ (eff : Int) * x ∧ (eff : Int) * x ≤ 1073709056 := by
  obtain ⟨hlow, hhigh⟩ := hx
  have heff' : (eff : Int) ≤ 32767 := by exact_mod_cast heff
  have hpos : (0 : Int) ≤ eff := by positivity
  constructor <;> nlinarith

/-- The four voices' terms of a sum. -/
theorem voiceTerms_bounds {n : Snapshot} {eff : Bank 4 Nat} (heff : ∀ t, eff.get t ≤ 32767)
    (h : ∀ seat x, (n.seats.get seat).crossfade = some x → 1 ≤ x.k ∧ x.k ≤ x.n) (m : Nat) :
    -4294836224 ≤ n.voiceTerms eff m ∧ n.voiceTerms eff m ≤ 4294836224 := by
  have hterm (t : Fin 4) := term_bounds (heff t) (voiceSample_bounds (h t) m)
  have h0 := hterm 0
  have h1 := hterm 1
  have h2 := hterm 2
  have h3 := hterm 3
  rw [voiceTerms_eq_sum, Fin.sum_univ_four]
  omega

/-! ## Effective gains -/

theorem effective_le (g : Gains) (o : Output) (source : Source) : g.effective o source ≤ 32767 := Nat.min_le_left _ _

theorem effective_uplink_far (g : Gains) : g.effective .uplink .far = 0 := by
  simp [Gains.effective, effective, Gains.cellCurrent]

end Sys2Proof.Machine
end

section
/-! PROOFS. The mix of a snapshot (R94, R103, R125 to R127). -/

namespace Sys2Proof.Machine

open Sys2Proof

/-- Settles O53: the sums, the voices, the reduction and the effective gains, each by its rule. -/
theorem theMixIsExactUntilItSaturates : Obligations.TheMixIsExactUntilItSaturates := by
  refine ⟨fun n m => ⟨voiceTerms_eq_sum n _ m, fun d => ?_⟩, fun n seat side m => ?_, fun n o =>
    ⟨length_row n o, fun m y hy => ?_⟩, isSaturated_iff, fun n seat m => ⟨voiceSample_of_silent,
      fun side hv hx => voiceSample_of_voice hv hx, fun side x hv hx hone hle => ?_⟩, fun n o m huplink hfar hvoice hfade => ?_,
    fun g => ⟨effective_uplink_far g, effective_le g, fun o source x l hx hl => ?_⟩⟩
  · rw [← voiceTerms_eq_sum]
    rfl
  · cases side with
    | left => exact ⟨fun i l hi hl => sideSample_of_link hi hl, fun h => sideSample_of_none h⟩
    | right => exact ⟨fun i l hi hl => sideSample_of_link hi hl, fun h => sideSample_of_none h⟩
  · rw [getElem?_row hy, toInt_saturated]
  · rw [voiceSample_of_crossfade hv hx]
    exact crossfadeValue_bounds _ _ hone hle
  · cases o with
    | uplink =>
      obtain ⟨hlow, hhigh⟩ := voiceTerms_bounds huplink hfade m
      simp only [Snapshot.acc]
      omega
    | down d =>
      obtain ⟨hlow, hhigh⟩ := voiceTerms_bounds (hvoice d) hfade m
      obtain ⟨hlow', hhigh'⟩ := term_bounds (x := n.farSample m) (hfar d) (sample_toInt_bounds _)
      simp only [Snapshot.acc]
      omega
  · have hcell : g.cellCurrent o source = x.current := by simp only [Gains.cellCurrent, hx]
    have hlevel : g.level o = l := Option.some.inj hl
    rw [Gains.effective, hcell, hlevel]
    refine ⟨rfl, fun hx' hl' => (Nat.min_le_right _ _).trans ?_⟩
    have hproduct : x.current * l.current ≤ 8192 * 32767 := Nat.mul_le_mul hx' hl'
    rw [Config.unity]
    omega

end Sys2Proof.Machine
end

section
/-! SUPPORT. What a completion does, stage by stage (R93, R95 to R97, R109, R128, R130 to R132). -/

namespace Sys2Proof.Machine

open Sys2Proof

/-! ## The activity of a link -/

theorem judged_judgeActivity (r : LinkRecord) (lvl : Nat) : r.Judged lvl (r.judgeActivity lvl) := by
  unfold LinkRecord.judgeActivity
  split
  next hquiet =>
    split
    next hloud =>
      split
      next hrun => exact .firstLoud hquiet hloud hrun
      next hrun => exact .starts hquiet hloud hrun
    next hsoft => exact .staysQuiet hquiet (not_le.mp hsoft)
  next htalking =>
    split
    next hloud => exact .staysTalking htalking hloud
    next hsoft =>
      split
      next hhang => exact .hangs htalking (not_le.mp hsoft) hhang
      next hhang => exact .ends htalking (not_le.mp hsoft) (not_lt.mp hhang)

/-- The activity update writes the activity and its three counts. -/
theorem judgeActivity_rest (r : LinkRecord) (lvl : Nat) :
    r.judgeActivity lvl = { r with
      activity := (r.judgeActivity lvl).activity, lastLevel := (r.judgeActivity lvl).lastLevel
      talkRun := (r.judgeActivity lvl).talkRun, hangCount := (r.judgeActivity lvl).hangCount } := by
  have h := judged_judgeActivity r lvl
  generalize r.judgeActivity lvl = j at h ⊢
  cases h <;> rfl

theorem mem_activityCauses {before after : Activity} {i : Fin 8} {c : Cause} :
    c ∈ activityCauses before after i ↔ (before = .quiet ∧ after = .talking ∧ c = .talkStart i) ∨
      (before = .talking ∧ after = .quiet ∧ c = .talkEnd i) := by
  cases before <;> cases after <;> simp [activityCauses]

/-! ## One record -/

section
variable {r : LinkRecord} {i : Fin 8} {n : Snapshot} {l : PassLink}

theorem complete_of_untouched (h : r.state ≠ .live ∨ n.links.get i = none) : r.complete i n = { record := r } := by
  unfold LinkRecord.complete
  split
  · rfl
  next l hl =>
    rcases h with h | h
    · rw [if_neg h]
    · rw [hl] at h
      cases h

/-- The downlink outputs of a link at a completion. -/
def LinkRecord.passOutputs (r : LinkRecord) (n : Snapshot) (l : PassLink) : List Sample :=
  downlinkOutputs r.heldSample (n.row (.down l.seat)) r.downPosition l.drift

theorem length_passOutputs : (r.passOutputs n l).length = downlinkCount r.downPosition l.drift := by
  rw [LinkRecord.passOutputs, downlinkOutputs, List.length_map, List.length_range]

theorem getElem?_passOutputs {k : Nat} {y : Sample} (h : (r.passOutputs n l)[k]? = some y) :
    y = sampleAtPosition (r.heldSample :: n.row (.down l.seat))
      (r.downPosition + k * ((16777216 : Int) - l.drift).toNat) := by
  rw [LinkRecord.passOutputs, downlinkOutputs, List.getElem?_map, Option.map_eq_some_iff] at h
  obtain ⟨m, hm, rfl⟩ := h
  rw [List.getElem?_eq_some_iff] at hm
  obtain ⟨hlt, hm⟩ := hm
  rw [← hm, List.getElem_range]
  rfl

theorem complete_of_live (hlive : r.state = .live) (hl : n.links.get i = some l) :
    r.complete i n =
      { record := (r.judgeActivity (level l.outputs)).resampleDown l.drift (n.row (.down l.seat))
        lossy := r.downlinkOverflows (downlinkCount r.downPosition l.drift)
        causes := activityCauses r.activity (r.judgeActivity (level l.outputs)).activity i } := by
  simp only [LinkRecord.complete, hl, if_pos hlive]

/-- The downlink stage of a record whose activity has been judged: the outputs are those of the record before it. -/
theorem resampleDown_judgeActivity (r : LinkRecord) (lvl : Nat) (n : Snapshot) (l : PassLink) :
    (r.judgeActivity lvl).resampleDown l.drift (n.row (.down l.seat)) =
      { r.judgeActivity lvl with
        downlink := r.downlink ++ (r.passOutputs n l).take (768 - r.downlink.length)
        counters := { r.counters with
          downDropped := counted r.counters.downDropped ((r.passOutputs n l).length - (768 - r.downlink.length)) }
        downPosition := carriedPosition r.downPosition l.drift
        heldSample := sampleAt (n.row (.down l.seat)) 63 } := by
  rw [judgeActivity_rest]
  rfl

/-- A link LIVE in the pass and still LIVE is served. -/
theorem served_complete (hlive : r.state = .live) (hl : n.links.get i = some l) (hdrift : l.drift ≤ 16384) :
    r.Served (r.complete i n).record n l (r.passOutputs n l) where
  judged := by
    refine ⟨r.judgeActivity (level l.outputs), judged_judgeActivity r _, ?_⟩
    simp only [complete_of_live hlive hl]
    rw [resampleDown_judgeActivity]
  count k := by
    rw [length_passOutputs]
    exact lt_downlinkCount_iff hdrift _ k
  outputs k y hy := by
    rw [getElem?_passOutputs hy, toInt_sampleAtPosition]
  position := by
    simp only [complete_of_live hlive hl, resampleDown_judgeActivity, length_passOutputs]
    exact carriedPosition_add hdrift _
  held := by
    simp only [complete_of_live hlive hl, resampleDown_judgeActivity, sampleAt, List.getD_eq_getElem?_getD]
    have hlen := length_row n (.down l.seat)
    rw [List.getElem?_eq_getElem (by omega), Option.getD_some]

/-- How many outputs a served link has. -/
theorem length_of_served {q : LinkRecord} {ys : List Sample} (h : r.Served q n l ys) (hdrift : l.drift ≤ 16384) :
    ys.length = downlinkCount r.downPosition l.drift :=
  eq_of_forall_lt_iff fun k => (h.count k).trans (lt_downlinkCount_iff hdrift _ k).symm

theorem complete_lossy (hdrift : ∀ l, n.links.get i = some l → l.drift ≤ 16384) :
    (r.complete i n).lossy = true ↔ ∃ l q ys, r.state = .live ∧ n.links.get i = some l ∧ r.Served q n l ys ∧
      768 < r.downlink.length + ys.length := by
  constructor
  · intro h
    by_cases huntouched : r.state ≠ .live ∨ n.links.get i = none
    · rw [complete_of_untouched huntouched] at h
      cases h
    · rw [not_or, not_not] at huntouched
      obtain ⟨hlive, hl⟩ := huntouched
      obtain ⟨l, hl⟩ := Option.ne_none_iff_exists'.mp hl
      refine ⟨l, _, _, hlive, hl, served_complete hlive hl (hdrift l hl), ?_⟩
      rw [complete_of_live hlive hl] at h
      rw [length_passOutputs]
      exact of_decide_eq_true h
  · rintro ⟨l, q, ys, hlive, hl, hserved, hfull⟩
    rw [length_of_served hserved (hdrift l hl)] at hfull
    rw [complete_of_live hlive hl]
    exact decide_eq_true hfull

theorem complete_unchanged : (r.complete i n).changed = false := by
  unfold LinkRecord.complete
  split
  · rfl
  · split <;> rfl

theorem resampleDown_activity (r : LinkRecord) (drift : Int) (row : List Sample) :
    (r.resampleDown drift row).activity = r.activity := by
  obtain ⟨_, _, _, _, h⟩ := resampleDown_eq r drift row
  rw [h]
  rfl

theorem mem_complete_causes {c : Cause} : c ∈ (r.complete i n).causes ↔
    (r.activity = .quiet ∧ (r.complete i n).record.activity = .talking ∧ c = .talkStart i) ∨
      (r.activity = .talking ∧ (r.complete i n).record.activity = .quiet ∧ c = .talkEnd i) := by
  by_cases huntouched : r.state ≠ .live ∨ n.links.get i = none
  · rw [complete_of_untouched huntouched]
    cases r.activity <;> simp
  · rw [not_or, not_not] at huntouched
    obtain ⟨hlive, hl⟩ := huntouched
    obtain ⟨l, hl⟩ := Option.ne_none_iff_exists'.mp hl
    simp only [complete_of_live hlive hl, mem_activityCauses, resampleDown_activity]

end

/-! ## The clips and the gains -/

theorem clips_eq_true {n : Snapshot} {o : Output} : n.clips o = true ↔ ∃ m, m < 64 ∧ Saturates (n.acc o m) := by
  simp only [Snapshot.clips, List.any_eq_true, List.mem_range, isSaturated_iff]

theorem mem_outputs (o : Output) : o ∈ Output.all := by
  cases o with
  | uplink => exact List.mem_cons_self
  | down d => exact List.mem_cons_of_mem _ (List.mem_map_of_mem (List.mem_finRange d))

theorem ramp_eq_ramped (x : Gain) : x.ramp = x.ramped := by
  unfold Gain.ramp Gain.ramped
  split
  · rfl
  · split
    · rfl
    next habove hbelow =>
      have hequal : max x.target (x.current - x.step) = x.current := by omega
      rw [hequal]

/-! ## The part -/

section
variable {s : State} {n : Snapshot}

/-- The part and its causes after the clip stage of a completion (R128, R131). -/
def State.clipsJudged (s : State) (n : Snapshot) : Event :=
  ((Event.start s).onState fun s => { s.disposeUplink (n.row .uplink) with pass := none }).judgeClips n

theorem completedStages_eq (s : State) (n : Snapshot) : (Event.start s).completedStages n =
    ((s.clipsJudged n).stepLinks fun i r => r.complete i n).onState State.rampAndAdvance := rfl

theorem clipsJudged_slots : (s.clipsJudged n).st.slots = s.slots := by
  have h : (s.clipsJudged n).st.slots = (s.disposeUplink (n.row .uplink)).slots := rfl
  rw [h, disposeUplink_rest]

theorem clipsJudged_linkChanges : (s.clipsJudged n).st.linkChanges = s.linkChanges := by
  have h : (s.clipsJudged n).st.linkChanges = (s.disposeUplink (n.row .uplink)).linkChanges := rfl
  rw [h, disposeUplink_rest]

theorem disposeUplink_clipOf (s : State) (row : List Sample) (o : Output) :
    (s.disposeUplink row).clipOf o = s.clipOf o := by
  rw [disposeUplink_rest]
  cases o <;> rfl

theorem disposeUplink_newClips (s : State) (row : List Sample) (n : Snapshot) :
    (s.disposeUplink row).newClips n = s.newClips n := by
  simp only [State.newClips, disposeUplink_clipOf]

theorem disposeUplink_of_call {row : List Sample} (h : s.engine = .call) : (s.disposeUplink row).pcm =
    { s.pcm with
      uplink := (s.pcm.uplink ++ row).drop ((s.pcm.uplink ++ row).length - 128)
      uplinkSlips := counted s.pcm.uplinkSlips ((s.pcm.uplink ++ row).length - 128) } := by
  rw [State.disposeUplink, if_pos h]
  rfl

theorem disposeUplink_of_not_call {row : List Sample} (h : s.engine ≠ .call) : (s.disposeUplink row).pcm = s.pcm := by
  rw [State.disposeUplink, if_neg h]

theorem disposeUplink_notices (s : State) (row : List Sample) : (s.disposeUplink row).notices = s.notices := by
  rw [disposeUplink_rest]

theorem clipsJudged_notices :
    (s.clipsJudged n).st.notices = { s.notices with clip := s.notices.clip || !(s.newClips n).isEmpty } := by
  have h : (s.clipsJudged n).st.notices =
      { (s.disposeUplink (n.row .uplink)).notices with
        clip := (s.disposeUplink (n.row .uplink)).notices.clip ||
          !((s.disposeUplink (n.row .uplink)).newClips n).isEmpty } := rfl
  rw [h, disposeUplink_notices, disposeUplink_newClips]

theorem clipsJudged_causes : (s.clipsJudged n).causes = (s.newClips n).map .clip := by
  have h : (s.clipsJudged n).causes = ((s.disposeUplink (n.row .uplink)).newClips n).map .clip := rfl
  rw [h, disposeUplink_newClips]

theorem mem_newClips {o : Output} : o ∈ s.newClips n ↔ n.clips o = true ∧ (s.clipOf o).flag = false := by
  simp [State.newClips, mem_outputs]

theorem completedStages_get (i : Fin 8) : ((Event.start s).completedStages n).st.slots.get i =
    (s.slots.get i).map fun r => (r.complete i n).record := by
  have h : ((Event.start s).completedStages n).st.slots.get i =
      ((s.clipsJudged n).st.slots.get i).map fun r => (r.complete i n).record := by
    rw [completedStages_eq]
    exact stepLinks_slots (s.clipsJudged n) _ i
  rw [h, clipsJudged_slots]

theorem clipOf_of_eq {s t : State} (huplink : s.uplinkClip = t.uplinkClip) (hdown : s.downClip = t.downClip) (o : Output) :
    s.clipOf o = t.clipOf o := by
  cases o with
  | uplink => exact huplink
  | down d => exact congrArg (fun b : Bank 4 ClipState => b.get d) hdown

theorem completedStages_clipOf (o : Output) :
    ((Event.start s).completedStages n).st.clipOf o = (s.clipOf o).judged (n.clips o) := by
  have h : ((Event.start s).completedStages n).st.clipOf o =
      ((s.disposeUplink (n.row .uplink)).mapClips fun o c => c.judged (n.clips o)).clipOf o := by
    refine clipOf_of_eq ?_ ?_ o <;>
      simp only [Event.completedStages, Event.onState, Event.judgeClips, Event.stepLinks, State.rampAndAdvance,
        State.mapClips, Event.start]
  rw [h, clipOf_mapClips, disposeUplink_clipOf]

/-- The outputs whose clip flag a completion sets from clear, by the flags before and after. -/
theorem newly_clipped_iff {o : Output} : o ∈ s.newClips n ↔
    (((Event.start s).completedStages n).st.clipOf o).flag = true ∧ (s.clipOf o).flag = false := by
  rw [mem_newClips, completedStages_clipOf, ClipState.judged]
  cases n.clips o <;> simp

theorem completedStages_linkChanges : ((Event.start s).completedStages n).st.linkChanges = s.linkChanges :=
  (stepLinks_linkChanges_of_unchanged (s.clipsJudged n) _ fun _ _ => complete_unchanged).trans clipsJudged_linkChanges

theorem completedStages_notices : ((Event.start s).completedStages n).st.notices =
    { s.notices with
      queue := ((Event.start s).completedStages n).st.notices.queue
      clip := s.notices.clip || !(s.newClips n).isEmpty } := by
  have hlink := stepLinks_link_of_unchanged (s.clipsJudged n) (fun i r => r.complete i n) fun _ _ => complete_unchanged
  have h : ((Event.start s).completedStages n).st.notices =
      { (s.clipsJudged n).st.notices with
        link := ((s.clipsJudged n).stepLinks fun i r => r.complete i n).st.notices.link
        queue := ((Event.start s).completedStages n).st.notices.queue } := rfl
  rw [hlink, clipsJudged_notices] at h
  exact h

theorem completedStages_clip : ((Event.start s).completedStages n).st.notices.clip =
    (s.notices.clip || !(s.newClips n).isEmpty) := by
  rw [completedStages_notices]

theorem completedStages_pcm (e : Event) : (e.completedStages n).st.pcm = (e.st.disposeUplink (n.row .uplink)).pcm := by
  rw [completedStages_rest]

theorem completedStages_gains (e : Event) : (e.completedStages n).st.gains = e.st.gains.ramp := by
  rw [completedStages_rest]

theorem completedStages_seats (e : Event) : (e.completedStages n).st.seats = e.st.seats.map SeatRecord.advance := by
  rw [completedStages_rest]

/-- The stages of a completion, each by its rule. -/
theorem completed_completedStages (hlinks : ∀ i l, n.links.get i = some l → l.InRange) :
    s.Completed n ((Event.start s).completedStages n).st ((Event.start s).completedStages n).causes where
  free i hi := by rw [completedStages_get, hi, Option.map_none]
  untouched i r hr h := by rw [completedStages_get, hr, Option.map_some, complete_of_untouched h]
  served i r l hr hlive hl := by
    refine ⟨_, _, ?_, served_complete hlive hl (hlinks i l hl).2.2⟩
    rw [completedStages_get, hr, Option.map_some]
  queue := by
    have h := stepLinks_queue (s.clipsJudged n) (fun i r => r.complete i n)
    rw [clipsJudged_slots, clipsJudged_notices] at h
    refine h.trans (or_congr_right (exists₂_congr fun i r => ?_))
    rw [complete_lossy fun l hl => (hlinks i l hl).2.2]
    simp only [exists_and_left]
  uplinkCall hcall := by
    rw [completedStages_pcm]
    exact disposeUplink_of_call hcall
  uplinkElse hother := by
    rw [completedStages_pcm]
    exact disposeUplink_of_not_call hother
  clipPass o h := by
    rw [completedStages_clipOf, ClipState.judged, if_pos (clips_eq_true.mpr h)]
    rfl
  noClipPass o h := by
    have hnot : ¬n.clips o = true := fun hclips => by
      obtain ⟨m, hm, hsat⟩ := clips_eq_true.mp hclips
      exact h m hm hsat
    rw [completedStages_clipOf, ClipState.judged, if_neg hnot]
  clip := by
    rw [completedStages_notices]
    simp only [Bool.or_eq_true, Bool.not_eq_true', List.isEmpty_eq_false_iff_exists_mem, newly_clipped_iff]
  gains g := by
    simp only [completedStages_gains, Event.start, Gains.ramp, get?_mapAll]
    exact congrArg (fun f => Option.map f (s.gains.get? g)) (funext ramp_eq_ramped)
  ceiling := by
    rw [completedStages_gains]
    rfl
  crossfades i := by
    rw [completedStages_seats]
    exact Bank.get_map ..
  causes c := by
    have h := mem_stepLinks_causes (s.clipsJudged n) (fun i r => r.complete i n) c
    rw [clipsJudged_slots, clipsJudged_causes] at h
    refine h.trans (or_congr ?_ (exists_congr fun i => ?_))
    · simp only [List.mem_map, newly_clipped_iff, and_assoc, @eq_comm _ c]
    · rw [completedStages_get]
      constructor
      · rintro ⟨r, hr, hc⟩
        refine ⟨r, _, hr, ?_, mem_complete_causes.mp hc⟩
        rw [hr, Option.map_some]
      · rintro ⟨r, q, hr, hq, hc⟩
        rw [hr, Option.map_some, Option.some.injEq] at hq
        subst hq
        exact ⟨r, hr, mem_complete_causes.mpr hc⟩
  rest := by
    have hrest := completedStages_rest (Event.start s) n
    have hnotices := completedStages_notices (s := s) (n := n)
    rw [← completedStages_clip] at hnotices
    rw [completedStages_linkChanges, ← completedStages_pcm, ← completedStages_gains, ← completedStages_seats] at hrest
    rw [hnotices] at hrest
    exact hrest

end

end Sys2Proof.Machine
end

section
/-! PROOFS. PASS COMPLETION (R130). -/

namespace Sys2Proof.Machine

open Sys2Proof

theorem arbitrate_of_sending {s : State} {f : DownFrame} (h : s.sending = some f) : s.arbitrate = s := by
  rcases arbitrate_cases s with heq | ⟨-, -, -, -, hidle, -⟩
  · exact heq
  · rw [h] at hidle
    cases hidle

theorem completePass_of_pass {s : State} {n : Snapshot} (h : s.pass = some n) : s.completePass =
    ((Event.start s).completedStages n).st.arbitrate.handleGroup ((Event.start s).completedStages n).causes := by
  simp only [State.completePass, h]
  rfl

theorem completePass_of_none {s : State} (h : s.pass = none) : s.completePass = s := by
  simp only [State.completePass, h]

/-- Settles O54: the stages of a completion, then the arbiter, then the causes. -/
theorem passCompletionDoesAllItsStages : Obligations.PassCompletionDoesAllItsStages := by
  intro s hready
  have hexec : exec .passCompletion s = .next s.completePass := congrArg _ (whenReady_of_ready _ _ hready)
  rw [hexec]
  refine ⟨fun hnone => by rw [completePass_of_none hnone], fun n hn hlinks =>
    ⟨_, _, completed_completedStages hlinks, fun f hf => arbitrate_of_sending (f := f) ?_, ?_⟩⟩
  · rw [completedStages_rest]
    exact hf
  · rw [completePass_of_pass hn]

end Sys2Proof.Machine
end

section
/-! SUPPORT. What a pass start makes of each record: priming, supply, starvation, drift window (R50 to R55, R71 to R74, R121,
R122). -/

namespace Sys2Proof.Machine

open Sys2Proof

section
variable {r : LinkRecord} {i : Fin 8}

/-! ## Priming -/

theorem primingTest_of_joins (h : r.Joins) :
    r.primingTest i =
      { record := r.primedRecord, changed := decide (r.state = .priming)
        causes := if r.state = .priming then [.linkLive i] else [] } := by
  unfold LinkRecord.primingTest LinkRecord.primedRecord
  by_cases hpriming : r.state = .priming
  · have hfull : r.config.startLevel ≤ r.jitter.length := by
      rcases h with hlive | ⟨-, hfull⟩
      · rw [hpriming] at hlive
        cases hlive
      · exact hfull
    rw [if_pos ⟨hpriming, hfull⟩, if_pos hpriming, if_pos hpriming, decide_eq_true hpriming]
    rfl
  · rw [if_neg fun hboth => hpriming hboth.1, if_neg hpriming, if_neg hpriming, decide_eq_false hpriming]

theorem primingTest_of_not_joins (h : ¬r.Joins) : r.primingTest i = { record := r } :=
  if_neg fun hboth => h (.inr hboth)

theorem primedRecord_live (h : r.Joins) : r.primedRecord.state = .live := by
  unfold LinkRecord.primedRecord
  split
  · rfl
  next hpriming => exact h.resolve_right fun hboth => hpriming hboth.1

/-- Priming keeps the configuration, the queue, the drift word and the LOW_FILL flag. -/
theorem primedRecord_rest (r : LinkRecord) :
    r.primedRecord.config = r.config ∧ r.primedRecord.jitter = r.jitter ∧ r.primedRecord.drift = r.drift ∧
      r.primedRecord.belowLow = r.belowLow := by
  unfold LinkRecord.primedRecord
  split <;> exact ⟨rfl, rfl, rfl, rfl⟩

/-! ## Supply, starvation and the drift window -/

theorem suppliesFully_iff (p : LinkRecord) : p.suppliesFully = true ↔ p.needed ≤ p.jitter.length := decide_eq_true_iff

theorem starves_iff (p : LinkRecord) : p.starves = true ↔ p.Starves := by
  rw [LinkRecord.starves, LinkRecord.Starves, Bool.and_eq_true, Bool.not_eq_true', ← Bool.not_eq_true, suppliesFully_iff,
    not_le, decide_eq_true_iff]

/-- A LIVE record once its LOW_FILL flag is written. -/
def LinkRecord.marked (p : LinkRecord) : LinkRecord := { p with belowLow := p.isLow }

/-- A LIVE record after its supply and the starve test. -/
def LinkRecord.afterSupply (p : LinkRecord) : LinkRecord :=
  if p.marked.starves then p.marked.supplied.reprimed else p.marked.supplied

theorem marked_starves (p : LinkRecord) : p.marked.starves = p.starves := rfl

theorem supplied_afterSupply (p : LinkRecord) : p.Supplied p.afterSupply := by
  unfold LinkRecord.afterSupply LinkRecord.supplied
  rw [marked_starves]
  by_cases hfull : p.needed ≤ p.jitter.length
  · have hfed : p.marked.suppliesFully = true := (suppliesFully_iff p).mpr hfull
    have hkept : ¬p.starves = true := fun h => absurd ((starves_iff p).mp h).1 (not_lt.mpr hfull)
    rw [if_neg hkept, if_pos hfed]
    exact .full hfull
  · have hshort : ¬p.marked.suppliesFully = true := mt (suppliesFully_iff p).mp hfull
    rw [if_neg hshort]
    by_cases hstarves : p.Starves
    · rw [if_pos ((starves_iff p).mpr hstarves)]
      exact .starved hstarves
    · rw [if_neg (mt (starves_iff p).mp hstarves)]
      exact .underrun (not_le.mp hfull) (not_le.mp fun hlimit => hstarves ⟨not_le.mp hfull, hlimit⟩)

theorem driftAdjust_eq (sum startLevel loopShift : Nat) :
    driftAdjust sum startLevel loopShift = adjustment sum startLevel loopShift := (heldTo_eq (by decide) _).symm

theorem windowed_windowed (p : LinkRecord) (fill : Nat) : p.Windowed fill (p.windowed fill) := by
  unfold LinkRecord.windowed
  split
  next hlast =>
    have hlimit (moved : Int) : (if decide (moved < -Config.driftMax ∨ Config.driftMax < moved) then 1 else 0) =
        if -16384 ≤ moved ∧ moved ≤ 16384 then 0 else 1 := by
      simp only [Config.driftMax, decide_eq_true_eq]
      split <;> split <;> omega
    have h := LinkRecord.Windowed.updates (r := p) (fill := fill) _ (Nat.le_of_succ_le_succ hlast) rfl
    rw [← hlimit, heldTo_eq (by decide), ← driftAdjust_eq] at h
    exact h
  next hgathers => exact .gathers (by simpa using hgathers)

theorem supplyStage_of_live {p : LinkRecord} (h : p.state = .live) :
    p.supplyStage i =
      { record := p.afterSupply.windowed p.jitter.length
        changed := p.starves
        causes := (if p.isLow && !p.belowLow then [.lowFill i] else []) ++
          (if p.starves then departureCauses p i else []) } := by
  rw [← departure_eq]
  exact if_pos h

theorem supplyStage_of_not_live {p : LinkRecord} (h : p.state ≠ .live) : p.supplyStage i = { record := p } := if_neg h

/-! ## Both stages -/

theorem not_live_of_not_joins (h : ¬r.Joins) : r.state ≠ .live := fun hlive => h (.inl hlive)

theorem startChanged_iff :
    ((r.primingTest i).changed = true ∨ ((r.primingTest i).record.supplyStage i).changed = true) ↔
      r.Joins ∧ (r.state = .priming ∨ r.primedRecord.Starves) := by
  by_cases h : r.Joins
  · rw [primingTest_of_joins h, supplyStage_of_live (primedRecord_live h), decide_eq_true_iff, starves_iff]
    simp only [h, true_and]
  · rw [primingTest_of_not_joins h, supplyStage_of_not_live (not_live_of_not_joins h)]
    simp [h]

theorem startCauses_iff {c : Cause} :
    (c ∈ (r.primingTest i).causes ∨ c ∈ ((r.primingTest i).record.supplyStage i).causes) ↔
      r.Joins ∧ r.PassCause i c := by
  by_cases h : r.Joins
  · rw [primingTest_of_joins h, supplyStage_of_live (primedRecord_live h)]
    obtain ⟨hconfig, hjitter, -, hlow⟩ := primedRecord_rest r
    have hflag : (r.primedRecord.isLow && !r.primedRecord.belowLow) = true ↔
        r.jitter.length < r.config.lowMark ∧ r.belowLow = false := by
      rw [LinkRecord.isLow, hconfig, hjitter, hlow]
      simp
    constructor
    · rintro (hc | hc)
      · split at hc
        next hpriming =>
          obtain rfl := List.mem_singleton.mp hc
          exact ⟨h, .live hpriming⟩
        · cases hc
      · rcases List.mem_append.mp hc with hc | hc
        · split at hc
          next hlowfill =>
            obtain rfl := List.mem_singleton.mp hc
            obtain ⟨hfill, hclear⟩ := hflag.mp hlowfill
            exact ⟨h, .lowFill hfill hclear⟩
          · cases hc
        · split at hc
          next hstarves => exact ⟨h, .departs c ((starves_iff _).mp hstarves) hc⟩
          · cases hc
    · rintro ⟨-, hpriming | ⟨hfill, hclear⟩ | ⟨_, hstarves, hc⟩⟩
      · exact .inl (by rw [if_pos hpriming]; exact List.mem_singleton_self _)
      · refine .inr (List.mem_append_left _ ?_)
        rw [if_pos (hflag.mpr ⟨hfill, hclear⟩)]
        exact List.mem_singleton_self _
      · refine .inr (List.mem_append_right _ ?_)
        rwa [if_pos ((starves_iff _).mpr hstarves)]
  · rw [primingTest_of_not_joins h, supplyStage_of_not_live (not_live_of_not_joins h)]
    simp [h]

end

/-! ## Two steps of all records -/

section
variable (e : Event) (f g : Fin 8 → LinkRecord → LinkStep)

theorem stepLinks_twice_linkChanges (i : Fin 8) : ((e.stepLinks f).stepLinks g).st.linkChanges.get i = true ↔
    e.st.linkChanges.get i = true ∨ ∃ r, e.st.slots.get i = some r ∧
      ((f i r).changed = true ∨ (g i (f i r).record).changed = true) := by
  rw [stepLinks_linkChanges, stepLinks_linkChanges, stepLinks_slots, or_assoc]
  cases e.st.slots.get i <;> simp

theorem stepLinks_twice_link : ((e.stepLinks f).stepLinks g).st.notices.link = true ↔
    e.st.notices.link = true ∨ ∃ i r, e.st.slots.get i = some r ∧
      ((f i r).changed = true ∨ (g i (f i r).record).changed = true) := by
  rw [stepLinks_link, stepLinks_link, or_assoc, ← exists_or]
  refine or_congr_right (exists_congr fun i => ?_)
  rw [stepLinks_slots]
  cases e.st.slots.get i <;> simp

theorem mem_stepLinks_twice_causes (c : Cause) : c ∈ ((e.stepLinks f).stepLinks g).causes ↔
    c ∈ e.causes ∨ ∃ i r, e.st.slots.get i = some r ∧ (c ∈ (f i r).causes ∨ c ∈ (g i (f i r).record).causes) := by
  rw [mem_stepLinks_causes, mem_stepLinks_causes, or_assoc, ← exists_or]
  refine or_congr_right (exists_congr fun i => ?_)
  rw [stepLinks_slots]
  cases e.st.slots.get i <;> simp

end

/-- The stages of a pass start on the records. -/
def Event.linksSupplied (e : Event) : Event :=
  (e.stepLinks fun i r => r.primingTest i).stepLinks fun i r => r.supplyStage i

theorem startPass_linkChanges (e : Event) : e.startPass.st.linkChanges = e.linksSupplied.st.linkChanges := by
  have hfar (s : State) : s.takeFarEnd.linkChanges = s.linkChanges := by rw [takeFarEnd_rest]
  exact hfar _

theorem startPass_link (e : Event) : e.startPass.st.notices.link = e.linksSupplied.st.notices.link := by
  have hfar (s : State) : s.takeFarEnd.notices = s.notices := by rw [takeFarEnd_rest]
  calc e.startPass.st.notices.link = e.voicesSelected.st.takeFarEnd.notices.link := rfl
    _ = e.voicesSelected.st.notices.link := by rw [hfar]
    _ = e.linksSupplied.st.notices.link := rfl

theorem startPass_causes (e : Event) : e.startPass.causes = e.linksSupplied.causes := rfl

theorem startPass_get_of_joins {e : Event} {i : Fin 8} {r : LinkRecord} (hr : e.st.slots.get i = some r) (h : r.Joins) :
    e.startPass.st.slots.get i = some (r.primedRecord.afterSupply.windowed r.jitter.length) := by
  obtain ⟨-, hjitter, -, -⟩ := primedRecord_rest r
  rw [get_startPass_slots, get_primedSlots, hr, Option.map_some, Option.map_some, primingTest_of_joins h,
    supplyStage_of_live (primedRecord_live h), hjitter]

theorem startPass_get_of_not_joins {e : Event} {i : Fin 8} {r : LinkRecord} (hr : e.st.slots.get i = some r)
    (h : ¬r.Joins) : e.startPass.st.slots.get i = some r := by
  rw [get_startPass_slots, get_primedSlots, hr, Option.map_some, Option.map_some, primingTest_of_not_joins h,
    supplyStage_of_not_live (not_live_of_not_joins h)]

end Sys2Proof.Machine
end

section
/-! PROOFS. Priming and supply at a pass start (R50 to R55, R68 to R74, R121, R122). -/

namespace Sys2Proof.Machine

open Sys2Proof

/-- Settles O49: each record by the priming test, and a LIVE one by its supply and its drift window. -/
theorem passStartsPrimeAndSupplyTheLinks : Obligations.PassStartsPrimeAndSupplyTheLinks := by
  intro e
  refine ⟨fun i hi => ?_, fun i r hr => ⟨startPass_get_of_not_joins hr, fun h =>
    ⟨_, _, supplied_afterSupply _, windowed_windowed _ _, startPass_get_of_joins hr h⟩⟩, fun i => ?_, ?_, fun c => ?_⟩
  · rw [get_startPass_slots, get_primedSlots, hi, Option.map_none, Option.map_none]
  · rw [startPass_linkChanges]
    refine (stepLinks_twice_linkChanges e _ _ i).trans (or_congr_right (exists_congr fun r => ?_))
    rw [startChanged_iff]
  · rw [startPass_link]
    refine (stepLinks_twice_link e _ _).trans (or_congr_right (exists₂_congr fun i r => ?_))
    rw [startChanged_iff]
  · rw [startPass_causes]
    refine (mem_stepLinks_twice_causes e _ _ c).trans (or_congr_right (exists₂_congr fun i r => ?_))
    rw [startCauses_iff]

end Sys2Proof.Machine
end

section
/-! SUPPORT. The snapshot, the far-end take and the voices of a pass start (R64 to R66, R87 to R91, R123 to R125). -/

namespace Sys2Proof.Machine

open Sys2Proof

/-! ## The LIVE set -/

theorem get_snapshot_links_of_joins {e : Event} {i : Fin 8} {r : LinkRecord} (hr : e.st.slots.get i = some r)
    (h : r.Joins) : e.snapshot.links.get i = some r.primedRecord.forPass := by
  refine get_passLinks_of_live ?_ (primedRecord_live h)
  rw [get_primedSlots, hr, Option.map_some, primingTest_of_joins h]

theorem get_snapshot_links_of_none {e : Event} {i : Fin 8} (h : ∀ r, e.st.slots.get i = some r → ¬r.Joins) :
    e.snapshot.links.get i = none := by
  rw [snapshot_links, get_passLinks, get_primedSlots]
  cases hr : e.st.slots.get i with
  | none => rfl
  | some r =>
    rw [Option.map_some, Option.bind_some, primingTest_of_not_joins (h r hr), if_neg (not_live_of_not_joins (h r hr))]

theorem get_snapshot_links_eq_none {e : Event} {i : Fin 8} :
    e.snapshot.links.get i = none ↔ ∀ r, e.st.slots.get i = some r → ¬r.Joins := by
  refine ⟨fun hnone r hr h => ?_, get_snapshot_links_of_none⟩
  rw [get_snapshot_links_of_joins hr h] at hnone
  cases hnone

theorem get_snapshot_links_eq_some {e : Event} {i : Fin 8} {l : PassLink} : e.snapshot.links.get i = some l ↔
    ∃ r, e.st.slots.get i = some r ∧ r.Joins ∧ l = r.primedRecord.forPass := by
  constructor
  · intro hl
    by_cases h : ∃ r, e.st.slots.get i = some r ∧ r.Joins
    · obtain ⟨r, hr, hjoins⟩ := h
      rw [get_snapshot_links_of_joins hr hjoins] at hl
      exact ⟨r, hr, hjoins, (Option.some.inj hl).symm⟩
    · rw [get_snapshot_links_of_none fun r hr hjoins => h ⟨r, hr, hjoins⟩] at hl
      cases hl
  · rintro ⟨r, hr, hjoins, rfl⟩
    exact get_snapshot_links_of_joins hr hjoins

/-! ## Outputs -/

theorem length_outputs (r : LinkRecord) : r.outputs.length = 64 := by
  rw [LinkRecord.outputs, List.length_map, List.length_range]

theorem getElem?_outputs {r : LinkRecord} {k : Nat} {y : Sample} (h : r.outputs[k]? = some y) :
    y = if r.positionAt k / 2 ^ 24 + 1 < r.jitter.length then sampleAtPosition r.jitter (r.positionAt k) else 0 := by
  rw [LinkRecord.outputs, List.getElem?_map, Option.map_eq_some_iff] at h
  obtain ⟨m, hm, rfl⟩ := h
  rw [List.getElem?_eq_some_iff] at hm
  obtain ⟨hlt, hm⟩ := hm
  rw [← hm, List.getElem_range]
  rfl

/-! ## Seats -/

/-- What holds a side follows from the configurations alone. -/
theorem holder_of_configs {a b : Bank 8 (Option LinkRecord)}
    (h : ∀ i, (a.get i).map LinkRecord.config = (b.get i).map LinkRecord.config) (seat : Fin 4) (side : Side) :
    holder a seat side = holder b seat side := by
  have hconfig (o : Option LinkRecord) : (o.any fun r => r.config.seat == seat && r.config.side == side) =
      (o.map LinkRecord.config).any fun c => c.seat == seat && c.side == side := by cases o <;> rfl
  unfold holder Bank.find?
  simp only [hconfig, h]

theorem linksSupplied_config (e : Event) (i : Fin 8) :
    (e.linksSupplied.st.slots.get i).map LinkRecord.config = (e.st.slots.get i).map LinkRecord.config := by
  have h : e.linksSupplied.st.slots.get i =
      ((e.st.slots.get i).map fun r => (r.primingTest i).record).map fun r => (r.supplyStage i).record := by
    rw [← stepLinks_slots e (fun i r => r.primingTest i) i]
    exact stepLinks_slots _ _ i
  rw [h]
  cases e.st.slots.get i with
  | none => rfl
  | some r => simp only [Option.map_some, (supplyStage_stays _ i).config, primingTest_config]

theorem snapshot_seat (e : Event) (i : Fin 4) :
    (e.snapshot.seats.get i).voice = (e.startPass.st.seats.get i).voice ∧
      (e.snapshot.seats.get i).crossfade = (e.startPass.st.seats.get i).crossfade ∧
      (e.snapshot.seats.get i).left = holder e.st.slots i .left ∧
      (e.snapshot.seats.get i).right = holder e.st.slots i .right := by
  have hseat : e.snapshot.seats.get i = e.voicesSelected.st.passSeat i := Bank.get_ofFn _ i
  have hafter : e.startPass.st.seats = e.voicesSelected.st.seats := by
    have hfar (s : State) : s.takeFarEnd.seats = s.seats := by rw [takeFarEnd_rest]
    exact hfar _
  have hholder (side : Side) : holder e.voicesSelected.st.slots i side = holder e.st.slots i side :=
    holder_of_configs (linksSupplied_config e) i side
  rw [hseat, hafter]
  exact ⟨rfl, rfl, hholder .left, hholder .right⟩

/-! ## The far end -/

theorem farEndBlock_of_call {s : State} (h : s.engine = .call) :
    s.farEndBlock = s.pcm.farEnd.take 64 ++ List.replicate (64 - s.pcm.farEnd.length) 0 := if_pos h

theorem farEndBlock_of_not_call {s : State} (h : s.engine ≠ .call) : s.farEndBlock = List.replicate 64 0 := if_neg h

theorem length_farEndBlock (s : State) : s.farEndBlock.length = 64 := by
  by_cases hcall : s.engine = .call
  · rw [farEndBlock_of_call hcall, List.length_append, List.length_take, List.length_replicate]
    omega
  · rw [farEndBlock_of_not_call hcall, List.length_replicate]

theorem getElem?_farEndBlock {s : State} {m : Nat} {y : Sample} (h : s.farEndBlock[m]? = some y) :
    y = if s.engine = .call then s.pcm.farEnd.getD m 0 else 0 := by
  by_cases hcall : s.engine = .call
  · rw [farEndBlock_of_call hcall, List.getElem?_append, List.length_take, List.getElem?_take, List.getElem?_replicate] at h
    rw [if_pos hcall, List.getD_eq_getElem?_getD]
    by_cases hm : m < s.pcm.farEnd.length
    · by_cases hblock : m < 64
      · rw [if_pos (by omega), if_pos hblock] at h
        rw [h, Option.getD_some]
      · rw [if_neg (by omega), if_neg (by omega)] at h
        cases h
    · rw [List.getElem?_eq_none (not_lt.mp hm), Option.getD_none]
      rw [if_neg (by omega)] at h
      split at h
      · exact (Option.some.inj h).symm
      · cases h
  · rw [farEndBlock_of_not_call hcall, List.getElem?_replicate] at h
    rw [if_neg hcall]
    split at h
    · exact (Option.some.inj h).symm
    · cases h

theorem takeFarEnd_pcm (s : State) : s.takeFarEnd.pcm =
    if s.engine = .call then
      { s.pcm with
        farEnd := s.pcm.farEnd.drop 64
        farEndSlips := counted s.pcm.farEndSlips (64 - s.pcm.farEnd.length) }
    else s.pcm := by
  unfold State.takeFarEnd
  split <;> rfl

/-! ## The notices -/

/-- A pass start reaches no notice but LINK and SEAT. -/
theorem startPass_notices (e : Event) : e.startPass.st.notices =
    { e.st.notices with link := e.startPass.st.notices.link, seat := e.startPass.st.notices.seat } := by
  have hfar (s : State) : s.takeFarEnd.notices = s.notices := by rw [takeFarEnd_rest]
  have hqueue : e.linksSupplied.st.notices.queue = e.st.notices.queue := by
    refine (stepLinks_queue_of_not_lossy _ _ fun i r => ?_).trans (stepLinks_queue_of_not_lossy _ _ fun i r => ?_)
    · unfold LinkRecord.supplyStage LinkRecord.passStart
      split <;> rfl
    · unfold LinkRecord.primingTest
      split <;> rfl
  have h : e.startPass.st.notices =
      { e.st.notices with
        link := e.startPass.st.notices.link, seat := e.startPass.st.notices.seat
        queue := e.linksSupplied.st.notices.queue } := by
    have hafter : e.startPass.st.notices = e.voicesSelected.st.notices := hfar _
    rw [hafter]
    rfl
  rwa [hqueue] at h

/-! ## The voices -/

theorem startPass_seatChanges (e : Event) (i : Fin 4) : e.startPass.st.seatChanges.get i =
    (e.st.seatChanges.get i || (e.st.seats.get i).switches (liveIn e.snapshot.links i)) := by
  have hfar (s : State) : s.takeFarEnd.seatChanges = s.seatChanges := by rw [takeFarEnd_rest]
  have h : e.startPass.st.seatChanges = e.voicesSelected.st.seatChanges := hfar _
  rw [h]
  exact Bank.get_mapIdx ..

theorem startPass_seat (e : Event) : e.startPass.st.notices.seat =
    (e.st.notices.seat || e.st.seats.any fun i r => r.switches (liveIn e.snapshot.links i)) := by
  have hfar (s : State) : s.takeFarEnd.notices = s.notices := by rw [takeFarEnd_rest]
  have h : e.startPass.st.notices = e.voicesSelected.st.notices := hfar _
  rw [h]
  rfl

/-- A side is live in a pass where a record on it joins the LIVE set. -/
theorem liveIn_iff (e : Event) (seat : Fin 4) (side : Side) : liveIn e.snapshot.links seat side = true ↔
    ∃ j l, e.st.slots.get j = some l ∧ l.Joins ∧ l.config.seat = seat ∧ l.config.side = side := by
  simp only [liveIn, Bank.any_eq_true, Option.any_eq_true, Bool.and_eq_true, beq_iff_eq, get_snapshot_links_eq_some]
  refine exists_congr fun j => ⟨?_, ?_⟩
  · rintro ⟨_, ⟨r, hr, hjoins, rfl⟩, hseat, hside⟩
    obtain ⟨hconfig, -⟩ := primedRecord_rest r
    exact ⟨r, hr, hjoins, hconfig ▸ hseat, hconfig ▸ hside⟩
  · rintro ⟨r, hr, hjoins, hseat, hside⟩
    obtain ⟨hconfig, -⟩ := primedRecord_rest r
    exact ⟨_, ⟨r, hr, hjoins, rfl⟩, (congrArg LinkConfig.seat hconfig).trans hseat,
      (congrArg LinkConfig.side hconfig).trans hside⟩

section
variable {r : SeatRecord} {live : Side → Bool}

theorem switches_iff : r.switches live = true ↔ (r.select live).1 ≠ r.voice := bne_iff_ne

theorem selected_of_kept (h : (r.select live).1 = r.voice) : r.selected live = { r with stable := (r.select live).2 } :=
  if_pos h

theorem selected_of_switch (h : (r.select live).1 ≠ r.voice) :
    r.selected live =
      { r with voice := (r.select live).1, stable := 0, crossfade := r.switchFade (r.select live).1 } := if_neg h

theorem switches_iff_voice : r.switches live = true ↔ (r.selected live).voice ≠ r.voice := by
  rw [switches_iff]
  by_cases h : (r.select live).1 = r.voice
  · rw [selected_of_kept h]
    simp [h]
  · rw [selected_of_switch h]

theorem select_of_fixed {p : Side} (h : r.mode = .fixed p) : r.select live = (if live p then some p else none, 0) := by
  simp only [SeatRecord.select, h]

theorem select_of_prefer {p a : Side} (h : r.mode = .prefer p) (ha : a ≠ p) : r.select live =
    if r.voice = some a ∧ live p ∧ live a then
      if r.returnHold + 1 ≤ r.stable + 1 then (some p, r.stable + 1) else (some a, r.stable + 1)
    else (if live p then some p else if live a then some a else none, 0) := by
  have hother : p.other = a := by
    cases p <;> cases a <;> simp [Side.other] at ha ⊢
  simp only [SeatRecord.select, h, hother]

theorem switchFade_of_fresh {old new : Side} (hvoice : r.voice = some old) (hfade : r.crossfade = none) :
    r.switchFade (some new) = some { old := old, new := new, k := 1, n := r.fadeLength } := by
  simp only [SeatRecord.switchFade, hvoice, hfade]

theorem switchFade_of_moving {old new : Side} {x : Crossfade} (hvoice : r.voice = some old) (hfade : r.crossfade = some x) :
    r.switchFade (some new) = some { old := x.new, new := new, k := 1, n := r.fadeLength } := by
  simp only [SeatRecord.switchFade, hvoice, hfade]

theorem switchFade_of_silence {target : Option Side} (h : r.voice = none ∨ target = none) :
    r.switchFade target = none := by
  unfold SeatRecord.switchFade
  rcases h with h | rfl
  · rw [h]
  · cases r.voice <;> rfl

end

end Sys2Proof.Machine
end

section
/-! PROOFS. The snapshot and the voices of a pass start (R64 to R66, R87 to R91, R123 to R125). -/

namespace Sys2Proof.Machine

open Sys2Proof

/-- Settles O50: the snapshot part by part, and the frame of a pass start. -/
theorem passStartsFixTheSnapshot : Obligations.PassStartsFixTheSnapshot := by
  intro e
  refine ⟨e.snapshot, rfl, rfl, fun i => get_snapshot_links_eq_none, fun i r hr h =>
    ⟨_, get_snapshot_links_of_joins hr h, ?_⟩, snapshot_seat e, length_farEndBlock _,
    fun m y hy => getElem?_farEndBlock (s := e.voicesSelected.st) hy,
    Bank.get_ofFn _, Bank.get_ofFn _, fun d t => ?_, ?_⟩
  · obtain ⟨hconfig, hjitter, hdrift, -⟩ := primedRecord_rest r
    refine ⟨congrArg LinkConfig.seat hconfig, congrArg LinkConfig.side hconfig, hdrift, length_outputs _, fun k y hy => ?_⟩
    have hy := getElem?_outputs hy
    rw [hjitter] at hy
    refine ⟨fun hin => ?_, fun hout => ?_⟩
    · rw [hy, if_pos hin, toInt_sampleAtPosition]
    · rw [hy, if_neg (not_lt.mpr hout)]
  · have hrow : e.snapshot.voiceGains.get d = Bank.ofFn fun t => e.st.gains.effective (.down d) (.voice t) :=
      Bank.get_ofFn _ d
    rw [hrow]
    exact Bank.get_ofFn _ t
  · have h := startPass_rest e
    rw [startPass_notices, startPass_pass, takeFarEnd_pcm] at h
    exact h

/-- Settles O51: each seat by its selection, and SEAT by the switches. -/
theorem passStartsSelectTheVoices : Obligations.PassStartsSelectTheVoices := by
  refine ⟨fun e => ?_, fun e i => ?_⟩
  · simp only [startPass_seat, Bool.or_eq_true, Bank.any_eq_true, startPass_seats, switches_iff_voice, snapshot_links]
  intro r q live
  have hlive (side : Side) : liveIn e.snapshot.links i side = true ↔ live side := liveIn_iff e i side
  have hq : q = r.selected (liveIn e.snapshot.links i) := startPass_seats e i
  refine ⟨(r.select (liveIn e.snapshot.links i)).1, (r.select (liveIn e.snapshot.links i)).2, fun p hp => ?_,
    fun p a hp ha => ?_, fun hkept => ⟨hq.trans (selected_of_kept hkept), ?_⟩, fun hswitch => ?_⟩
  · rw [select_of_fixed hp]
    exact ⟨rfl, fun h => if_pos ((hlive p).mpr h), fun h => if_neg (mt (hlive p).mp h)⟩
  · rw [select_of_prefer hp ha]
    refine ⟨fun hvoice hp ha => ?_, fun hp h => ?_, fun hp ha => ?_, fun hp ha => ?_⟩
    · rw [if_pos ⟨hvoice, (hlive p).mpr hp, (hlive a).mpr ha⟩]
      split <;> exact ⟨rfl, rfl⟩
    · rw [if_neg fun hall => h.elim (fun hv => hv hall.1) fun ha => ha ((hlive a).mp hall.2.2), if_pos ((hlive p).mpr hp)]
      exact ⟨rfl, rfl⟩
    · rw [if_neg fun hall => hp ((hlive p).mp hall.2.1), if_neg (mt (hlive p).mp hp), if_pos ((hlive a).mpr ha)]
      exact ⟨rfl, rfl⟩
    · rw [if_neg fun hall => hp ((hlive p).mp hall.2.1), if_neg (mt (hlive p).mp hp), if_neg (mt (hlive a).mp ha)]
      exact ⟨rfl, rfl⟩
  · have hno : r.switches (liveIn e.snapshot.links i) = false := by
      rw [← Bool.not_eq_true, switches_iff]
      exact not_not.mpr hkept
    rw [startPass_seatChanges, hno, Bool.or_false]
  · have hyes : r.switches (liveIn e.snapshot.links i) = true := switches_iff.mpr hswitch
    rw [hq, selected_of_switch hswitch, startPass_seatChanges, hyes, Bool.or_true, startPass_seat, Bool.or_eq_true,
      Bank.any_eq_true]
    refine ⟨rfl, rfl, .inr ⟨i, hyes⟩, fun old new hvoice htarget hfade => ?_, fun old new x hvoice htarget hfade => ?_,
      switchFade_of_silence⟩
    · rw [htarget]
      exact switchFade_of_fresh hvoice hfade
    · rw [htarget]
      exact switchFade_of_moving hvoice hfade

end Sys2Proof.Machine
end

section
/-! SUPPORT. What a tick does before the engine's own work: supervision, timers, lock test (R20, R142, R155, R156). -/

namespace Sys2Proof.Machine

open Sys2Proof

/-! ## Supervision -/

section
variable {r : LinkRecord} {i : Fin 8}

theorem lose_record (r : LinkRecord) (i : Fin 8) : (r.lose i).record = r.lostRecord := rfl

theorem supervise_of_expiring (h : r.Expiring) : r.supervise i = r.lose i := by
  obtain ⟨hrunning, hremaining⟩ := h
  rw [LinkRecord.supervise, if_pos ⟨hrunning, by omega⟩, if_pos hremaining]

theorem supervise_of_counting (h : r.Running) (hmore : 1 < r.remaining) :
    r.supervise i = { record := { r with remaining := r.remaining - 1 } } := by
  rw [LinkRecord.supervise, if_pos ⟨h, by omega⟩, if_neg (by omega)]

theorem supervise_of_kept (h : ¬(r.Running ∧ 0 < r.remaining)) : r.supervise i = { record := r } := if_neg h

/-- What supervision makes of a record, and when it expires. -/
theorem supervise_cases (r : LinkRecord) (i : Fin 8) :
    (r.Expiring ∧ r.supervise i = r.lose i) ∨
      ¬r.Expiring ∧ ∃ q, r.Supervised q ∧ r.supervise i = { record := q } := by
  by_cases hrunning : r.Running ∧ 0 < r.remaining
  · obtain ⟨hrun, hpos⟩ := hrunning
    by_cases hlast : r.remaining = 1
    · exact .inl ⟨⟨hrun, hlast⟩, supervise_of_expiring ⟨hrun, hlast⟩⟩
    · have hmore : 1 < r.remaining := by omega
      exact .inr ⟨fun h => hlast h.2, _, .counts hrun hmore, supervise_of_counting hrun hmore⟩
  · exact .inr ⟨fun ⟨hrun, hlast⟩ => hrunning ⟨hrun, by omega⟩, _, .kept hrunning, supervise_of_kept hrunning⟩

theorem supervised_supervise (r : LinkRecord) (i : Fin 8) : r.Supervised (r.supervise i).record := by
  rcases supervise_cases r i with ⟨h, heq⟩ | ⟨-, q, hq, heq⟩ <;> rw [heq]
  · exact .expires h
  · exact hq

theorem supervise_changed : (r.supervise i).changed = true ↔ r.Expiring := by
  rcases supervise_cases r i with ⟨h, heq⟩ | ⟨h, q, -, heq⟩ <;> rw [heq]
  · simp [LinkRecord.lose, h]
  · simp [h]

theorem supervise_lossy (r : LinkRecord) (i : Fin 8) : (r.supervise i).lossy = false := by
  rcases supervise_cases r i with ⟨-, heq⟩ | ⟨-, q, -, heq⟩ <;> rw [heq]
  rfl

theorem mem_supervise_causes {c : Cause} : c ∈ (r.supervise i).causes ↔ r.Expiring ∧ c ∈ departureCauses r i := by
  rcases supervise_cases r i with ⟨h, heq⟩ | ⟨h, q, -, heq⟩ <;> rw [heq]
  · simp only [LinkRecord.lose, departure_eq, h, true_and]
  · simp [h]

end

/-! ## Timers -/

section
variable {ts : Bank 4 Timer}

theorem timerDue_eq (ts : Bank 4 Timer) (i : Fin 4) : timerDue ts i = (ts.get i).expires (belowDue ts i) := by
  fin_cases i <;> rfl

theorem belowDue_iff (i : Fin 4) :
    belowDue ts i = true ↔ ∃ below : Fin 4, below.val + 1 = i.val ∧ timerDue ts below = true := by
  fin_cases i <;> simp [belowDue, Fin.exists_fin_succ]

theorem timer_counts_iff (t : Timer) (below : Bool) :
    t.counts below = true ↔ t.state = .running ∧ (t.source = .tick ∨ below = true) := by
  simp [Timer.counts]

theorem timer_expires_iff (t : Timer) (below : Bool) : t.expires below = true ↔ t.counts below = true ∧ t.count ≤ 1 := by
  simp [Timer.expires]

/-- A timer expires at a tick exactly if its count reaches 0, by its own source or by the timer below it. -/
theorem timerExpires_iff (i : Fin 4) : TimerExpires ts i ↔ TimerCounts ts i ∧ (ts.get i).count ≤ 1 := by
  constructor
  · rintro (⟨_, hrun, hsource, hcount⟩ | ⟨below, _, hbelow, hexpires, hrun, hsource, hcount⟩)
    · exact ⟨⟨hrun, .inl hsource⟩, hcount⟩
    · exact ⟨⟨hrun, .inr ⟨below, hbelow, hexpires⟩⟩, hcount⟩
  · rintro ⟨⟨hrun, hsource⟩, hcount⟩
    cases htick : (ts.get i).source with
    | tick => exact .tick i hrun htick hcount
    | cascade =>
      rcases hsource with hsource | ⟨below, hbelow, hexpires⟩
      · rw [htick] at hsource
        cases hsource
      · exact .cascade below i hbelow hexpires hrun htick hcount

theorem timerDue_iff (i : Fin 4) : timerDue ts i = true ↔ TimerExpires ts i := by
  rw [timerDue_eq, timer_expires_iff, timer_counts_iff, belowDue_iff, timerExpires_iff]
  refine and_congr_left fun _ => and_congr_right fun _ => or_congr_right (exists_congr fun below => ?_)
  exact and_congr_right fun hbelow => timerDue_iff below
termination_by i.val
decreasing_by omega

theorem timer_counts_belowDue (i : Fin 4) : (ts.get i).counts (belowDue ts i) = true ↔ TimerCounts ts i := by
  simp only [timer_counts_iff, belowDue_iff, timerDue_iff]
  rfl

theorem timer_expires_belowDue (i : Fin 4) : (ts.get i).expires (belowDue ts i) = true ↔ TimerExpires ts i := by
  rw [← timerDue_eq, timerDue_iff]

theorem timerTicks_tickTimers (i : Fin 4) : TimerTicks ts i ((tickTimers ts).get i) := by
  have hget : (tickTimers ts).get i = (ts.get i).counted (belowDue ts i) := Bank.get_mapIdx ..
  rw [hget]
  constructor
  case reloads =>
    intro h hmode
    simp only [Timer.counted, if_pos ((timer_expires_belowDue i).mpr h), hmode]
  case ends =>
    intro h hmode
    simp only [Timer.counted, if_pos ((timer_expires_belowDue i).mpr h), hmode]
  case counts =>
    intro h hnot
    rw [Timer.counted, if_neg (mt (timer_expires_belowDue i).mp hnot), if_pos ((timer_counts_belowDue i).mpr h)]
  case waits =>
    intro h
    have hnot : ¬TimerExpires ts i := fun hexpires => h ((timerExpires_iff i).mp hexpires).1
    rw [Timer.counted, if_neg (mt (timer_expires_belowDue i).mp hnot), if_neg (mt (timer_counts_belowDue i).mp h)]

theorem mem_timerCauses {c : Cause} : c ∈ timerCauses ts ↔ ∃ i, TimerExpires ts i ∧ c = .timer i := by
  simp only [timerCauses, List.mem_map, List.mem_filter, List.mem_finRange, true_and, timerDue_iff, @eq_comm _ c]

end

/-! ## The tick before the engine's work -/

/-- The event of a tick after supervision and timers. -/
def State.timed (s : State) : Event := ((Event.start s).stepLinks fun i r => r.supervise i).tickTimers

/-- The part after a tick's supervision, timers and lock test. -/
def State.ticked (s : State) : State := { s.timed.st with pcm := s.pcm.afterTick }

theorem ticked_ticked (s : State) : s.Ticked s.ticked s.timed.causes where
  free i hi := by
    have h : s.ticked.slots.get i = _ := stepLinks_slots (Event.start s) (fun i r => r.supervise i) i
    rw [h]
    exact congrArg _ hi
  links i r hr := by
    have h : s.ticked.slots.get i = _ := stepLinks_slots (Event.start s) (fun i r => r.supervise i) i
    exact ⟨_, h.trans (congrArg _ hr), supervised_supervise r i⟩
  linkChanges i := (stepLinks_linkChanges (Event.start s) (fun i r => r.supervise i) i).trans
    (or_congr_right (exists_congr fun _ => and_congr_right fun _ => supervise_changed))
  link := (stepLinks_link (Event.start s) (fun i r => r.supervise i)).trans
    (or_congr_right (exists₂_congr fun _ _ => and_congr_right fun _ => supervise_changed))
  timers i := timerTicks_tickTimers i
  causes c := by
    have h := mem_stepLinks_causes (Event.start s) (fun i r => r.supervise i) c
    simp only [mem_supervise_causes] at h
    have hstart : c ∉ (Event.start s).causes := List.not_mem_nil
    rw [or_iff_right hstart] at h
    exact List.mem_append.trans (or_congr h mem_timerCauses)
  rest := by
    have h := stepLinks_rest_of_not_lossy (Event.start s) (f := fun i r => r.supervise i) fun i r =>
      supervise_lossy r i
    exact congrArg (fun x : State => { x with timers := tickTimers s.timers, pcm := s.pcm.afterTick }) h

theorem timed_engine (s : State) : s.timed.st.engine = s.engine := rfl

theorem tick_of_ready {s : State} (h : s.phase = .ready) : s.tick = s.timed.engineTick.finish := by
  simp only [State.tick, h]
  rfl

end Sys2Proof.Machine
end

section
/-! PROOFS. Ticks in STOPPED and CALL (R20, R142, R145, R151, R155). -/

namespace Sys2Proof.Machine

open Sys2Proof

theorem engineTick_of_stopped {s : State} (h : s.engine = .stopped) :
    s.timed.engineTick = { st := s.ticked, causes := s.timed.causes } := by
  have hkept : ¬s.timed.st.LosesClock := fun hlost => by
    have hcall := hlost.1
    rw [timed_engine, h] at hcall
    cases hcall
  have htest : s.timed.engineTick = s.timed.testLock := by
    unfold Event.engineTick
    rw [timed_engine, h]
  rw [htest, testLock_of_kept hkept]
  rfl

theorem engineTick_of_call {s : State} (h : s.engine = .call) :
    s.timed.engineTick = (s.timed.onState fun s => { s with ticks := nextTicks s.ticks }).testLock := by
  unfold Event.engineTick
  rw [timed_engine, h]

theorem engineTick_of_holdover {s : State} (h : s.engine = .holdover) :
    s.timed.engineTick = ({ st := s.ticked, causes := s.timed.causes } : Event).holdoverTick := by
  have hkept : ¬s.timed.st.LosesClock := fun hlost => by
    have hcall := hlost.1
    rw [timed_engine, h] at hcall
    cases hcall
  have htest : s.timed.engineTick = s.timed.testLock.holdoverTick := by
    unfold Event.engineTick
    rw [timed_engine, h]
  rw [htest, testLock_of_kept hkept]
  rfl

/-- Settles O44: STOPPED and CALL by the lock test. -/
theorem ticksOutsideHoldover : Obligations.TicksOutsideHoldover := by
  intro s hready hengine
  have hexec : exec .tick s = .next s.timed.engineTick.finish := congrArg _ (tick_of_ready hready)
  rw [hexec]
  refine ⟨s.ticked, s.timed.causes, ticked_ticked s, fun hstopped => ?_, fun hcall hkept => ?_, fun hcall hseen hlock => ?_⟩
  · rw [engineTick_of_stopped hstopped]
    rfl
  · rw [engineTick_of_call hcall, testLock_of_kept]
    · rfl
    · rintro ⟨-, hlock, hseen⟩
      rcases hkept with h | h
      · exact absurd (h.symm.trans hseen) (by decide)
      · exact absurd (h.symm.trans hlock) (by decide)
  · rw [engineTick_of_call hcall, testLock_of_lost ⟨hcall, hlock, hseen⟩]
    rfl

end Sys2Proof.Machine
end

section
/-! SUPPORT. A tick in HOLDOVER, by what it brings about, and the rows that name it (R147, R152). -/

namespace Sys2Proof.Machine

open Sys2Proof

section
variable {s : State}

theorem endsCall_iff (s : State) : s.endsCall = true ↔ 2000 ≤ s.holdover + 1 := decide_eq_true_iff

theorem nextTicks_eq (t : Nat) : nextTicks t = min 4 (t + 1) := rfl

theorem holdoverTick_of_ending {e : Event} (h : 2000 ≤ e.st.holdover + 1) : e.holdoverTick = e.endCall :=
  if_pos ((endsCall_iff e.st).mpr h)

/-- The part with H one up and T at this value. -/
def State.holdoverCounted (s : State) (ticks : Nat) : State := { s with holdover := s.holdover + 1, ticks }

theorem holdoverTick_of_counting {e : Event} (h : e.st.holdover + 1 < 2000) (hticks : e.st.ticks < 3) :
    e.holdoverTick = e.onState fun s => s.holdoverCounted (s.ticks + 1) := by
  have hends : ¬e.st.endsCall = true := fun hends => absurd ((endsCall_iff e.st).mp hends) (by omega)
  have hnext : nextTicks e.st.ticks = e.st.ticks + 1 := by rw [nextTicks_eq]; omega
  have hbefore : ¬e.st.ticks + 1 = Config.holdoverSpacing := by
    rw [Config.holdoverSpacing]
    omega
  simp only [Event.holdoverTick, if_neg hends, onState_st, hnext, if_neg hbefore]
  simp only [Event.onState, State.holdoverCounted, hnext]

theorem holdoverTick_of_boundary {e : Event} (h : e.st.holdover + 1 < 2000) (hticks : 3 ≤ e.st.ticks) :
    e.holdoverTick = (e.onState fun s => s.holdoverCounted 0).boundary := by
  have hends : ¬e.st.endsCall = true := fun hends => absurd ((endsCall_iff e.st).mp hends) (by omega)
  have hnext : nextTicks e.st.ticks = Config.holdoverSpacing := by
    rw [nextTicks_eq, Config.holdoverSpacing]
    omega
  simp only [Event.holdoverTick, if_neg hends, onState_st, hnext, if_true]
  rfl

theorem boundary_eq (e : Event) : e.boundary = ({ st := e.st.completePass, causes := e.causes } : Event).startPass := rfl

/-- The part at a boundary once a pass still in flight is completed. -/
theorem completePass_cases (s : State) :
    (s.pass = none → s.completePass = s) ∧
      ∀ n, s.pass = some n → (∀ i l, n.links.get i = some l → l.InRange) →
        ∃ w causes, s.Completed n w causes ∧ s.completePass = w.arbitrate.handleGroup causes :=
  ⟨completePass_of_none, fun _ hn hlinks => ⟨_, _, completed_completedStages hlinks, completePass_of_pass hn⟩⟩

/-! ## The rows -/

theorem exec_automaticCallEnd (s : State) :
    exec .automaticCallEnd s = .next (if s.callEndDue then s.tick else s) := rfl

theorem exec_holdoverPassBoundary (s : State) :
    exec .holdoverPassBoundary s = .next (if s.holdoverBoundaryDue then s.tick else s) := rfl

theorem callEndDue_iff (h : s.phase = .ready) :
    s.callEndDue = true ↔ s.engine = .holdover ∧ 2000 ≤ s.holdover + 1 := by
  simp only [State.callEndDue, (isReady_eq_true s).mpr h, Bool.true_and, Bool.and_eq_true, beq_iff_eq, endsCall_iff]

theorem holdoverBoundaryDue_iff (h : s.phase = .ready) :
    s.holdoverBoundaryDue = true ↔ s.engine = .holdover ∧ s.holdover + 1 < 2000 ∧ 3 ≤ s.ticks := by
  have hnext : nextTicks s.ticks = Config.holdoverSpacing ↔ 3 ≤ s.ticks := by
    rw [nextTicks_eq, Config.holdoverSpacing]
    omega
  simp only [State.holdoverBoundaryDue, (isReady_eq_true s).mpr h, Bool.true_and, Bool.and_eq_true, beq_iff_eq, hnext,
    Bool.not_eq_true', ← Bool.not_eq_true, endsCall_iff, not_le, and_assoc]

end

end Sys2Proof.Machine
end

section
/-! PROOFS. Ticks in HOLDOVER (R119, R147, R152). -/

namespace Sys2Proof.Machine

open Sys2Proof

/-- Settles O45: the call end, the counting tick and the boundary, each with its row. -/
theorem ticksInHoldoverPaceAndEndTheCall : Obligations.TicksInHoldoverPaceAndEndTheCall := by
  intro s hready
  have hexec : exec .tick s = .next s.timed.engineTick.finish := congrArg _ (tick_of_ready hready)
  have hcallEnd := callEndDue_iff hready
  have hboundary := holdoverBoundaryDue_iff hready
  refine ⟨fun hholdover => ⟨s.ticked, s.timed.causes, ticked_ticked s, fun hlast => ?_, fun hmore hticks => ?_,
    fun hmore hticks => ?_⟩, fun hother => ?_⟩
  · refine ⟨_, _, callEnded_endCall s.ticked, ?_⟩
    have htick : exec .tick s = .next ((Event.start s.ticked).endCall.st.handleGroup
        (s.timed.causes ++ (Event.start s.ticked).endCall.causes)) := by
      rw [hexec, engineTick_of_holdover hholdover, holdoverTick_of_ending hlast]
      rfl
    refine ⟨htick, ?_, ?_⟩
    · rw [exec_automaticCallEnd, if_pos (hcallEnd.mpr ⟨hholdover, hlast⟩)]
      exact htick
    · rw [exec_holdoverPassBoundary, if_neg fun h => absurd (hboundary.mp h).2.1 (by omega)]
  · refine ⟨?_, ?_, ?_⟩
    · rw [hexec, engineTick_of_holdover hholdover, holdoverTick_of_counting hmore hticks]
      rfl
    · rw [exec_automaticCallEnd, if_neg fun h => absurd (hcallEnd.mp h).2 (by omega)]
    · rw [exec_holdoverPassBoundary, if_neg fun h => absurd (hboundary.mp h).2.2 (by omega)]
  · obtain ⟨hnone, hsome⟩ := completePass_cases (s.ticked.holdoverCounted 0)
    have htick : exec .tick s =
        .next (({ st := s.ticked.holdoverCounted 0, causes := s.timed.causes } : Event).boundary).finish := by
      rw [hexec, engineTick_of_holdover hholdover, holdoverTick_of_boundary hmore hticks]
      rfl
    refine ⟨(s.ticked.holdoverCounted 0).completePass, hnone, hsome, htick, ?_, ?_⟩
    · rw [exec_holdoverPassBoundary, if_pos (hboundary.mpr ⟨hholdover, hmore, hticks⟩)]
      exact htick
    · rw [exec_automaticCallEnd, if_neg fun h => absurd (hcallEnd.mp h).2 (by omega)]
  · rw [exec_automaticCallEnd, exec_holdoverPassBoundary, if_neg fun h => hother (hcallEnd.mp h).1,
      if_neg fun h => hother (hboundary.mp h).1]
    exact ⟨rfl, rfl⟩

end Sys2Proof.Machine
end

section
/-! SUPPORT. What the engine's work at a tick leaves of the tick's own effects (R15, R20, R155). -/

namespace Sys2Proof.Machine

open Sys2Proof

/-! ## Change flags, LINK and timers through the engine's work -/

/-- From `s` to `t` no link's change flag and no LINK is cleared, and where no cue set is enabled none becomes so and the
timers stay. -/
structure State.Carries (s t : State) : Prop where
  linkChanges : ∀ i, s.linkChanges.get i = true → t.linkChanges.get i = true
  link : s.notices.link = true → t.notices.link = true
  timers : s.NoCueEnabled → t.NoCueEnabled ∧ t.timers = s.timers

section
variable {s t u : State}

theorem carries_of_eq (hchanges : t.linkChanges = s.linkChanges) (hlink : t.notices.link = s.notices.link)
    (hcues : t.cues = s.cues) (htimers : t.timers = s.timers) : s.Carries t where
  linkChanges i h := by rwa [hchanges]
  link h := by rwa [hlink]
  timers h := ⟨fun j => by rw [hcues]; exact h j, htimers⟩

theorem carries_trans (h : s.Carries t) (h' : t.Carries u) : s.Carries u where
  linkChanges i hs := h'.linkChanges i (h.linkChanges i hs)
  link hs := h'.link (h.link hs)
  timers hs := by
    obtain ⟨ht, htimers⟩ := h.timers hs
    obtain ⟨hu, htimers'⟩ := h'.timers ht
    exact ⟨hu, htimers'.trans htimers⟩

theorem handleGroup_link (s : State) (group : List Cause) : (s.handleGroup group).notices.link = s.notices.link := by
  have h := congrArg (fun x : State => x.notices.link) (cueWrites_handleGroup s group).rest
  exact h

theorem carries_handleGroup (s : State) (group : List Cause) : s.Carries (s.handleGroup group) where
  linkChanges i h := by rwa [handleGroup_linkChanges]
  link h := by rwa [handleGroup_link]
  timers h := by
    rw [handleGroup_of_none_enabled s h]
    exact ⟨h, rfl⟩

theorem carries_arbitrate (s : State) : s.Carries s.arbitrate := by
  rcases arbitrate_cases s with h | ⟨i, r, -, -, -, h⟩ <;> rw [h]
  · exact carries_of_eq rfl rfl rfl rfl
  · exact carries_of_eq rfl rfl rfl rfl

theorem carries_completePass (s : State) : s.Carries s.completePass := by
  cases hpass : s.pass with
  | none =>
    rw [completePass_of_none hpass]
    exact carries_of_eq rfl rfl rfl rfl
  | some n =>
    rw [completePass_of_pass hpass]
    have hrest := completedStages_rest (Event.start s) n
    have hstages : s.Carries ((Event.start s).completedStages n).st :=
      carries_of_eq completedStages_linkChanges (by rw [completedStages_notices]) (by rw [hrest]; rfl) (by rw [hrest]; rfl)
    exact carries_trans hstages (carries_trans (carries_arbitrate _) (carries_handleGroup _ _))

theorem carries_startPass (e : Event) : e.st.Carries e.startPass.st where
  linkChanges i h := by
    rw [startPass_linkChanges]
    exact (stepLinks_twice_linkChanges e _ _ i).mpr (.inl h)
  link h := by
    rw [startPass_link]
    exact (stepLinks_twice_link e _ _).mpr (.inl h)
  timers h := by
    rw [startPass_rest]
    exact ⟨h, rfl⟩

theorem carries_endCall (s : State) : s.Carries (Event.start s).endCall.st where
  linkChanges i h := ((callEnded_endCall s).linkChanges i).mpr (.inl h)
  link h := (callEnded_endCall s).link.mpr (.inl h)
  timers h := ⟨h, rfl⟩

/-! ## A record that is not LIVE through a boundary -/

section
variable {i : Fin 8} {r : LinkRecord}

theorem arbitrate_get_of_not_live (hr : s.slots.get i = some r) (h : r.state ≠ .live) :
    s.arbitrate.slots.get i = some r := by
  rcases arbitrate_cases s with heq | ⟨j, q, hq, hlive, -, heq⟩ <;> rw [heq]
  · exact hr
  · have hne : i ≠ j := fun hij => by
      rw [← hij, hr, Option.some.injEq] at hq
      exact h (hq ▸ hlive)
    exact (Bank.get_set_ne _ _ hne).trans hr

theorem completePass_get_of_not_live (hr : s.slots.get i = some r) (h : r.state ≠ .live) :
    s.completePass.slots.get i = some r := by
  cases hpass : s.pass with
  | none => rw [completePass_of_none hpass, hr]
  | some n =>
    rw [completePass_of_pass hpass, handleGroup_slots]
    refine arbitrate_get_of_not_live ?_ h
    rw [completedStages_get, hr, Option.map_some, complete_of_untouched (.inl h)]

/-- A record that is neither PRIMING nor LIVE at a boundary stays as it is, out of the new pass. -/
theorem boundary_of_lost {e : Event} (hr : e.st.slots.get i = some r) (h : r.state = .lost) :
    e.boundary.st.slots.get i = some r ∧ ∃ n, e.boundary.st.pass = some n ∧ n.links.get i = none := by
  have hnot : ¬r.Joins := by
    rintro (hlive | ⟨hpriming, -⟩)
    · exact absurd (h.symm.trans hlive) (by decide)
    · exact absurd (h.symm.trans hpriming) (by decide)
  have hslot := completePass_get_of_not_live hr (not_live_of_not_joins hnot)
  rw [boundary_eq]
  refine ⟨startPass_get_of_not_joins hslot hnot, _, startPass_pass _, get_snapshot_links_of_none fun q hq => ?_⟩
  rw [hslot, Option.some.injEq] at hq
  exact hq ▸ hnot

end

/-! ## The whole tick -/

/-- In STOPPED and CALL the engine's work at a tick reaches neither records nor change flags nor timers. -/
theorem engineTick_of_not_holdover (h : s.engine ≠ .holdover) :
    s.timed.engineTick.st.slots = s.ticked.slots ∧ s.ticked.Carries s.timed.engineTick.st := by
  cases hengine : s.engine with
  | stopped =>
    rw [engineTick_of_stopped hengine]
    exact ⟨rfl, carries_of_eq rfl rfl rfl rfl⟩
  | call =>
    rw [engineTick_of_call hengine]
    by_cases hlost : (s.timed.onState fun s => { s with ticks := nextTicks s.ticks }).st.LosesClock
    · rw [testLock_of_lost hlost]
      exact ⟨rfl, carries_of_eq rfl rfl rfl rfl⟩
    · rw [testLock_of_kept hlost]
      exact ⟨rfl, carries_of_eq rfl rfl rfl rfl⟩
  | holdover => exact absurd hengine h

theorem carries_engineTick (s : State) : s.ticked.Carries s.timed.engineTick.st := by
  by_cases hengine : s.engine = .holdover
  · rw [engineTick_of_holdover hengine]
    by_cases hlast : 2000 ≤ s.holdover + 1
    · rw [holdoverTick_of_ending hlast]
      exact carries_endCall _
    · by_cases hticks : s.ticks < 3
      · rw [holdoverTick_of_counting (not_le.mp hlast) hticks]
        exact carries_of_eq rfl rfl rfl rfl
      · rw [holdoverTick_of_boundary (not_le.mp hlast) (not_lt.mp hticks), boundary_eq]
        have hcounted : s.ticked.Carries (s.ticked.holdoverCounted 0) := carries_of_eq rfl rfl rfl rfl
        exact carries_trans hcounted (carries_trans (carries_completePass _)
          (carries_startPass { st := (s.ticked.holdoverCounted 0).completePass, causes := s.timed.causes }))
  · exact (engineTick_of_not_holdover hengine).2

theorem ticked_get_of_expiring {i : Fin 8} {r : LinkRecord} (hr : s.slots.get i = some r) (h : r.Expiring) :
    s.ticked.slots.get i = some r.lostRecord := by
  have hget : s.ticked.slots.get i = _ := stepLinks_slots (Event.start s) (fun i r => r.supervise i) i
  rw [hget]
  refine (congrArg _ hr).trans ?_
  rw [Option.map_some, supervise_of_expiring h, lose_record]

/-! ## The rows -/

theorem exec_supervisionExpiry (s : State) (i : Fin 8) :
    exec (.supervisionExpiry i) s = .next (if s.supervisionDue i then s.tick else s) := rfl

theorem exec_timerExpiry (s : State) (i : Fin 4) :
    exec (.timerExpiry i) s = .next (if s.timerIsDue i then s.tick else s) := rfl

theorem supervisionDue_iff (h : s.phase = .ready) (i : Fin 8) :
    s.supervisionDue i = true ↔ ∃ r, s.slots.get i = some r ∧ r.Expiring := by
  simp only [State.supervisionDue, (isReady_eq_true s).mpr h, Bool.true_and, Option.any_eq_true, Bool.and_eq_true,
    Bool.or_eq_true, beq_iff_eq]
  rfl

theorem timerIsDue_iff (h : s.phase = .ready) (i : Fin 4) : s.timerIsDue i = true ↔ TimerExpires s.timers i := by
  rw [State.timerIsDue, (isReady_eq_true s).mpr h, Bool.true_and, timerDue_iff]

end

end Sys2Proof.Machine
end

section
/-! PROOFS. The expiry rows (R20, R155). -/

namespace Sys2Proof.Machine

open Sys2Proof

/-- Settles O46: an expiring record is LOST before the engine's work, which leaves it out; a timer's expiry is the tick's. -/
theorem expiryRowsAreTheTickThatExpires : Obligations.ExpiryRowsAreTheTickThatExpires := by
  intro s hready
  have htick : s.tick = s.timed.engineTick.st.handleGroup s.timed.engineTick.causes := tick_of_ready hready
  have hcarries : s.ticked.Carries s.tick := by
    rw [htick]
    exact carries_trans (carries_engineTick s) (carries_handleGroup _ _)
  have hslots : s.tick.slots = s.timed.engineTick.st.slots := by rw [htick, handleGroup_slots]
  have hpass : s.tick.pass = s.timed.engineTick.st.pass := by rw [htick, handleGroup_pass]
  have hdue := supervisionDue_iff hready
  have htimer := timerIsDue_iff hready
  refine ⟨s.tick, rfl, fun i r hr => ⟨fun hnot => ?_, fun h => ⟨?_, ?_, ?_, fun hholdover hlast => ?_, fun hmore => ?_,
    fun hholdover hmore hticks => ?_⟩⟩, fun i hi => ?_, fun i => ⟨fun hnot => ?_, fun h => ⟨?_, fun hcues => ?_⟩⟩⟩
  · rw [exec_supervisionExpiry, if_neg]
    rw [hdue i]
    rintro ⟨q, hq, hexpiring⟩
    rw [hr, Option.some.injEq] at hq
    exact hnot (hq ▸ hexpiring)
  · rw [exec_supervisionExpiry, if_pos ((hdue i).mpr ⟨r, hr, h⟩)]
  · exact hcarries.linkChanges i (((ticked_ticked s).linkChanges i).mpr (.inr ⟨r, hr, h⟩))
  · exact hcarries.link ((ticked_ticked s).link.mpr (.inr ⟨i, r, hr, h⟩))
  · rw [hslots, engineTick_of_holdover hholdover, holdoverTick_of_ending hlast, endCall_st,
      (callEnded_endCall _).slots, ticked_get_of_expiring hr h, Option.map_some]
  · have hslot := ticked_get_of_expiring hr h
    rw [hslots]
    by_cases hholdover : s.engine = .holdover
    · have hmore : s.holdover + 1 < 2000 := hmore.resolve_left (not_not.mpr hholdover)
      rw [engineTick_of_holdover hholdover]
      by_cases hticks : s.ticks < 3
      · rw [holdoverTick_of_counting hmore hticks]
        exact hslot
      · rw [holdoverTick_of_boundary hmore (not_lt.mp hticks)]
        exact (boundary_of_lost (e := { st := s.ticked.holdoverCounted 0, causes := s.timed.causes }) hslot rfl).1
    · rw [(engineTick_of_not_holdover hholdover).1, hslot]
  · rw [hpass, engineTick_of_holdover hholdover, holdoverTick_of_boundary hmore hticks]
    exact (boundary_of_lost (e := { st := s.ticked.holdoverCounted 0, causes := s.timed.causes })
      (ticked_get_of_expiring hr h) rfl).2
  · rw [exec_supervisionExpiry, if_neg]
    rw [hdue i]
    rintro ⟨q, hq, -⟩
    rw [hi] at hq
    cases hq
  · rw [exec_timerExpiry, if_neg (mt (htimer i).mp hnot)]
  · rw [exec_timerExpiry, if_pos ((htimer i).mpr h)]
  · rw [(hcarries.timers hcues).2]
    exact (ticked_ticked s).timers i

end Sys2Proof.Machine
end

section
/-! SUPPORT. A frame sync by the state of the port: the lock detection outside CALL, and the transfer in CALL (R137 to R141,
R146, R151). -/

namespace Sys2Proof.Machine

open Sys2Proof

/-! ## Lock detection -/

section
variable {p : PcmPort}

theorem locks_of_locked (h : p.lock = .locked) : p.locks = false := by simp [PcmPort.locks, h]

theorem locks_of_short (h : p.run + 1 < 64) : p.locks = false := by
  rw [← Bool.not_eq_true, locks_iff]
  omega

theorem afterSync_of_locked (h : p.lock = .locked) : p.afterSync = { p with seen := true } := by
  simp [PcmPort.afterSync, locks_of_locked h, h]

theorem afterSync_of_short (h : p.lock = .unlocked) (hrun : p.run + 1 < 64) :
    p.afterSync = { p with seen := true, run := p.run + 1 } := by
  simp [PcmPort.afterSync, locks_of_short hrun, h]

theorem afterSync_of_locks (h : p.locks = true) :
    p.afterSync = { p with seen := true, lock := .locked, run := 0, b := 0 } := if_pos h

/-! ## The transfer -/

theorem takeFarEnd_of_room {x : Sample} (h : p.farEnd.length < 128) :
    p.takeFarEnd x = { p with farEnd := p.farEnd ++ [x], farEndSlips := counted p.farEndSlips 0 } := by
  have hexcess : (p.farEnd ++ [x]).length - Config.fifoCapacity = 0 := by
    rw [List.length_append, List.length_singleton, Config.fifoCapacity]
    omega
  rw [PcmPort.takeFarEnd, hexcess]
  rfl

theorem takeFarEnd_of_full {x : Sample} (h : p.farEnd.length = 128) :
    p.takeFarEnd x = { p with farEnd := p.farEnd.tail ++ [x], farEndSlips := counted p.farEndSlips 1 } := by
  have hexcess : (p.farEnd ++ [x]).length - Config.fifoCapacity = 1 := by
    rw [List.length_append, List.length_singleton, Config.fifoCapacity, h]
  have hpos : p.farEnd ≠ [] := fun hnil => by
    rw [hnil] at h
    cases h
  rw [PcmPort.takeFarEnd, hexcess, List.drop_one, List.tail_append_of_ne_nil hpos]
  rfl

theorem startUplink_of_waiting (h : p.b ≠ 32 ∨ p.uplink = []) : p.startUplink = p := by
  refine if_neg fun ⟨_, hb, huplink⟩ => ?_
  rcases h with h | h
  · exact h hb
  · exact huplink h

theorem startUplink_of_sending (h : p.side = .sending) : p.startUplink = p := by
  refine if_neg fun ⟨hwaiting, _⟩ => ?_
  rw [h] at hwaiting
  cases hwaiting

theorem startUplink_of_start (hside : p.side = .waiting) (hb : p.b = 32) (huplink : p.uplink ≠ []) :
    p.startUplink = { p with side := .sending } := if_pos ⟨hside, hb, huplink⟩

theorem sendUplink_of_waiting (enabled : Bool) (h : p.side = .waiting) : p.sendUplink enabled = { p with dout := 0 } := by
  simp only [PcmPort.sendUplink, h]

theorem sendUplink_of_empty (enabled : Bool) (h : p.side = .sending) (huplink : p.uplink = []) :
    p.sendUplink enabled = { p with dout := 0, uplinkSlips := counted p.uplinkSlips 1 } := by
  simp only [PcmPort.sendUplink, h, huplink]
  rfl

theorem sendUplink_of_head (enabled : Bool) {y : Sample} {rest : List Sample} (h : p.side = .sending)
    (huplink : p.uplink = y :: rest) :
    p.sendUplink enabled = { p with dout := if enabled then y else 0, uplink := rest } := by
  simp only [PcmPort.sendUplink, h, huplink]

/-- The port at a frame sync in CALL once the far-end sample is taken and b counted. -/
def PcmPort.entered (p : PcmPort) (x : Sample) : PcmPort := { p.takeFarEnd x with b := p.b + 1 }

theorem entered_eq (p : PcmPort) (x : Sample) : p.entered x =
    { p with farEnd := (p.takeFarEnd x).farEnd, farEndSlips := (p.takeFarEnd x).farEndSlips, b := p.b + 1 } := by
  obtain ⟨farEnd, slips, h, -⟩ := takeFarEnd_port_rest p x
  rw [PcmPort.entered, h]

theorem entered_facts (p : PcmPort) (x : Sample) : (p.entered x).side = p.side ∧ (p.entered x).uplink = p.uplink ∧
    (p.entered x).b = p.b + 1 ∧ (p.entered x).uplinkSlips = p.uplinkSlips := by
  rw [entered_eq]
  exact ⟨rfl, rfl, rfl, rfl⟩

theorem activeFrame_eq (p : PcmPort) (x : Sample) (enabled : Bool) :
    p.activeFrame x enabled = (p.entered x).startUplink.sendUplink enabled := rfl

variable {x : Sample} {enabled : Bool}

theorem activeFrame_of_waiting (hside : p.side = .waiting) (h : p.b + 1 ≠ 32 ∨ p.uplink = []) :
    p.activeFrame x enabled = { p.entered x with dout := 0 } := by
  obtain ⟨hside', huplink', hb', -⟩ := entered_facts p x
  rw [← hside'] at hside
  rw [← hb', ← huplink'] at h
  rw [activeFrame_eq, startUplink_of_waiting h, sendUplink_of_waiting enabled hside]

theorem activeFrame_of_empty (hside : p.side = .sending) (h : p.uplink = []) :
    p.activeFrame x enabled = { p.entered x with dout := 0, uplinkSlips := counted p.uplinkSlips 1 } := by
  obtain ⟨hside', huplink', -, hslips'⟩ := entered_facts p x
  rw [← hside'] at hside
  rw [← huplink'] at h
  rw [activeFrame_eq, startUplink_of_sending hside, sendUplink_of_empty enabled hside h, hslips']

theorem activeFrame_of_head {y : Sample} {rest : List Sample} (huplink : p.uplink = y :: rest)
    (h : p.side = .sending ∨ p.b + 1 = 32) : p.activeFrame x enabled =
      { p.entered x with side := .sending, dout := if enabled then y else 0, uplink := rest } := by
  obtain ⟨hside', huplink', hb', -⟩ := entered_facts p x
  rw [← huplink'] at huplink
  rw [← hside', ← hb'] at h
  rw [activeFrame_eq]
  generalize p.entered x = q at *
  cases hside : q.side with
  | sending =>
    rw [startUplink_of_sending hside, sendUplink_of_head enabled hside huplink, ← hside]
  | waiting =>
    have hstart : q.b = 32 := h.resolve_left fun hsending => by
      rw [hside] at hsending
      cases hsending
    have hfull : q.uplink ≠ [] := by
      rw [huplink]
      exact List.cons_ne_nil y rest
    rw [startUplink_of_start hside hstart hfull]
    exact sendUplink_of_head (p := { q with side := .sending }) enabled rfl huplink

/-- A transfer writes the two FIFOs with their slips, the side, the sample sent and b. -/
theorem activeFrame_rest (p : PcmPort) (x : Sample) (enabled : Bool) : p.activeFrame x enabled =
    { p with
      farEnd := (p.takeFarEnd x).farEnd, farEndSlips := (p.takeFarEnd x).farEndSlips
      side := (p.activeFrame x enabled).side, uplink := (p.activeFrame x enabled).uplink
      dout := (p.activeFrame x enabled).dout, uplinkSlips := (p.activeFrame x enabled).uplinkSlips, b := p.b + 1 } := by
  obtain ⟨dout, uplink, slips, hsend, -⟩ := sendUplink_rest (p.entered x).startUplink enabled
  rw [activeFrame_eq, hsend, startUplink_rest, entered_eq]

theorem activeFrame_farEnd (p : PcmPort) (x : Sample) (enabled : Bool) :
    (p.activeFrame x enabled).farEnd = (p.takeFarEnd x).farEnd ∧
      (p.activeFrame x enabled).farEndSlips = (p.takeFarEnd x).farEndSlips := by
  have h := activeFrame_rest p x enabled
  generalize p.takeFarEnd x = q at h ⊢
  generalize p.activeFrame x enabled = after at h ⊢
  have hfar := congrArg PcmPort.farEnd h
  have hslips := congrArg PcmPort.farEndSlips h
  exact ⟨hfar, hslips⟩

end

/-! ## The frame sync -/

section
variable {s : State} {x : Sample} {enabled : Bool}

theorem frameSync_of_ready (h : s.phase = .ready) :
    exec (.frameSync x enabled) s = .next ((Event.start s).frameSync x enabled).finish :=
  congrArg Host.Outcome.next (whenReady_of_ready s _ h)

theorem exec_lock (s : State) (x : Sample) (enabled : Bool) :
    exec (.lock x enabled) s = .next (if s.lockDue then s.frameSync x enabled else s) := rfl

theorem exec_callPassBoundary (s : State) (x : Sample) (enabled : Bool) :
    exec (.callPassBoundary x enabled) s = .next (if s.callBoundaryDue then s.frameSync x enabled else s) := rfl

theorem lockDue_iff (h : s.phase = .ready) : s.lockDue = true ↔ s.pcm.lock = .unlocked ∧ 64 ≤ s.pcm.run + 1 := by
  rw [State.lockDue, (isReady_eq_true s).mpr h, Bool.true_and, locks_iff]

theorem callBoundaryDue_iff (h : s.phase = .ready) :
    s.callBoundaryDue = true ↔ s.engine = .call ∧ 64 ≤ s.pcm.b + 1 := by
  rw [State.callBoundaryDue, (isReady_eq_true s).mpr h, Bool.true_and, Bool.and_eq_true, beq_iff_eq, decide_eq_true_iff]

/-- A frame sync outside CALL that moves no engine state. -/
theorem frameSync_of_idle (h : s.phase = .ready) (hengine : s.engine ≠ .call)
    (hkept : s.pcm.locks = false ∨ s.engine = .stopped) :
    exec (.frameSync x enabled) s = .next { s with pcm := ({ s.pcm with dout := 0 } : PcmPort).afterSync } := by
  rw [frameSync_of_ready h]
  have hframe : (Event.start s).frameSync x enabled = (Event.start s).idleFrame := if_neg hengine
  rw [hframe, Event.idleFrame, detectLock_of_kept]
  · exact congrArg _ (handleGroup_nil _)
  · rintro ⟨hlocks, hholdover⟩
    rcases hkept with hno | hstopped
    · exact absurd (hno.symm.trans hlocks) (by decide)
    · exact absurd (hstopped.symm.trans hholdover) (by decide)

/-- The lock made in HOLDOVER. -/
theorem frameSync_of_back (h : s.phase = .ready) (hengine : s.engine = .holdover) (hlocks : s.pcm.locks = true) :
    exec (.frameSync x enabled) s = .next
      ({ s with
          pcm := { ({ s.pcm with dout := 0 } : PcmPort).afterSync with side := .waiting, uplink := [] }
          engine := .call, holdover := 0, ticks := 0
          notices := { s.notices with clock := true } }.handleGroup [.clockBack]) := by
  rw [frameSync_of_ready h]
  have hframe : (Event.start s).frameSync x enabled = (Event.start s).idleFrame :=
    if_neg fun hcall : s.engine = .call => absurd (hengine.symm.trans hcall) (by decide)
  rw [hframe, Event.idleFrame, detectLock_of_back hlocks hengine]
  rfl

/-- The port after a frame sync in CALL, before its boundary. -/
def PcmPort.synced (p : PcmPort) (x : Sample) (enabled : Bool) : PcmPort := { p.activeFrame x enabled with seen := true }

theorem synced_b (p : PcmPort) (x : Sample) (enabled : Bool) : (p.synced x enabled).b = p.b + 1 := by
  obtain ⟨-, -, hb, -, -⟩ := activeFrame_facts p x enabled
  exact hb

theorem transferred_start (hlock : s.pcm.lock = .locked) :
    (Event.start s).transferred x enabled = { st := { s with pcm := s.pcm.synced x enabled }, causes := [] } :=
  transferred_of_locked x enabled hlock

theorem frameSync_of_short (h : s.phase = .ready) (hcall : s.engine = .call) (hlock : s.pcm.lock = .locked)
    (hb : s.pcm.b + 1 < 64) :
    exec (.frameSync x enabled) s = .next { s with pcm := s.pcm.synced x enabled } := by
  rw [frameSync_of_ready h, frameSync_of_call _ x enabled hcall, transferred_start hlock, if_neg]
  · exact congrArg _ (handleGroup_nil _)
  · rw [synced_b]
    omega

theorem frameSync_of_boundary (h : s.phase = .ready) (hcall : s.engine = .call) (hlock : s.pcm.lock = .locked)
    (hb : 64 ≤ s.pcm.b + 1) :
    exec (.frameSync x enabled) s = .next
      (({ st := { s with ticks := 0, pcm := { s.pcm.synced x enabled with b := 0 } }, causes := [] } :
        Event).boundary).finish := by
  rw [frameSync_of_ready h, frameSync_of_call _ x enabled hcall, transferred_start hlock, if_pos]
  · rfl
  · rw [synced_b]
    exact hb

end

end Sys2Proof.Machine
end

section
/-! PROOFS. Frame syncs (R119, R137 to R141, R146, R151). -/

namespace Sys2Proof.Machine

open Sys2Proof

/-- Settles O47: the lock detection by the run of frame syncs, and the row LOCK as the frame sync that locks. -/
theorem frameSyncsOutsideCallDetectTheLock : Obligations.FrameSyncsOutsideCallDetectTheLock := by
  intro s x enabled hready
  have hdue := lockDue_iff hready
  refine ⟨fun hengine => ⟨fun hlocked => ?_, fun hunlocked hshort => ?_, fun hunlocked hlong =>
    ⟨fun hstopped => ?_, fun hholdover => ?_⟩⟩, fun hnot => ?_⟩
  · rw [frameSync_of_idle hready hengine (.inl (locks_of_locked hlocked)), afterSync_of_locked (p := { s.pcm with dout := 0 }) hlocked]
  · rw [frameSync_of_idle hready hengine (.inl (locks_of_short hshort)), afterSync_of_short (p := { s.pcm with dout := 0 }) hunlocked hshort]
  · have hlocks : s.pcm.locks = true := locks_iff.mpr ⟨hunlocked, hlong⟩
    have hsync : exec (.frameSync x enabled) s = .next { s with
        pcm := { s.pcm with dout := 0, seen := true, lock := .locked, run := 0, b := 0 } } := by
      rw [frameSync_of_idle hready hengine (.inr hstopped), afterSync_of_locks (p := { s.pcm with dout := 0 }) hlocks]
    rintro c (rfl | rfl)
    · exact hsync
    · rw [exec_lock, if_pos (hdue.mpr ⟨hunlocked, hlong⟩)]
      exact hsync
  · have hlocks : s.pcm.locks = true := locks_iff.mpr ⟨hunlocked, hlong⟩
    have hsync := frameSync_of_back (x := x) (enabled := enabled) hready hholdover hlocks
    rw [afterSync_of_locks (p := { s.pcm with dout := 0 }) hlocks] at hsync
    rintro c (rfl | rfl)
    · exact hsync
    · rw [exec_lock, if_pos (hdue.mpr ⟨hunlocked, hlong⟩)]
      exact hsync
  · rw [exec_lock, if_neg]
    rw [hdue]
    rintro ⟨hunlocked, hlong⟩
    rcases hnot with hlocked | hshort
    · exact absurd (hlocked.symm.trans hunlocked) (by decide)
    · omega

/-- Settles O48: the transfer by the states of the FIFOs and the side, and the boundary at b = 64. -/
theorem frameSyncsInCallTransferAndStartPasses : Obligations.FrameSyncsInCallTransferAndStartPasses := by
  intro s x enabled hready
  have hdue := callBoundaryDue_iff hready
  refine ⟨fun hcall hlock => ⟨s.pcm.synced x enabled, fun hroom => ?_, fun hfull => ?_, fun hside h => ?_,
    fun y rest huplink h => ?_, fun huplink hside => ?_, ?_, frameSync_of_short hready hcall hlock, fun hb => ?_⟩, fun h => ?_⟩
  · obtain ⟨hfar, hslips⟩ := activeFrame_farEnd s.pcm x enabled
    rw [takeFarEnd_of_room hroom] at hfar hslips
    exact ⟨hfar, hslips⟩
  · obtain ⟨hfar, hslips⟩ := activeFrame_farEnd s.pcm x enabled
    rw [takeFarEnd_of_full hfull] at hfar hslips
    exact ⟨hfar, hslips⟩
  · obtain ⟨hside', huplink', -, hslips'⟩ := entered_facts s.pcm x
    rw [PcmPort.synced, activeFrame_of_waiting hside h]
    generalize s.pcm.entered x = q at *
    exact ⟨hside'.trans hside, huplink', rfl, hslips'⟩
  · obtain ⟨-, -, -, hslips'⟩ := entered_facts s.pcm x
    rw [PcmPort.synced, activeFrame_of_head huplink h]
    generalize s.pcm.entered x = q at *
    exact ⟨rfl, rfl, rfl, hslips'⟩
  · obtain ⟨hside', huplink', -, -⟩ := entered_facts s.pcm x
    rw [PcmPort.synced, activeFrame_of_empty hside huplink]
    generalize s.pcm.entered x = q at *
    exact ⟨hside'.trans hside, huplink'.trans huplink, rfl, rfl⟩
  · obtain ⟨hfar, hslips⟩ := activeFrame_farEnd s.pcm x enabled
    have hrest := activeFrame_rest s.pcm x enabled
    rw [← hfar, ← hslips] at hrest
    exact congrArg (fun p : PcmPort => { p with seen := true }) hrest
  · obtain ⟨hnone, hsome⟩ :=
      completePass_cases { s with ticks := 0, pcm := { s.pcm.synced x enabled with b := 0 } }
    refine ⟨_, hnone, hsome, ?_⟩
    have hsync := frameSync_of_boundary (x := x) (enabled := enabled) hready hcall hlock hb
    rintro started c (rfl | rfl)
    · exact hsync
    · rw [exec_callPassBoundary, if_pos (hdue.mpr ⟨hcall, hb⟩)]
      exact hsync
  · rw [exec_callPassBoundary, if_neg]
    rw [hdue]
    rintro ⟨hcall, hb⟩
    rcases h with h | h
    · exact h hcall
    · omega

end Sys2Proof.Machine
end
